-- ==== Sys2Proof/Word.lean ====
section
/-! DEFINITION. The word types of the TL2408 and the finite index types of its tables. -/

namespace Sys2Proof

/-- One byte, as on the management port and in a burst-link beat. -/
abbrev Byte := BitVec 8

/-- A two-byte management argument (lines, line length, crop line, crop byte). -/
abbrev Word16 := BitVec 16

/-- A 32-bit quantity: frame number, counter, fill value, page stride, page size. -/
abbrev Word32 := BitVec 32

/-- A 40-bit byte address (00_scope.md section 5.1). -/
abbrev Addr := BitVec 40

/-- A stream number, 0 to 7 (R1). -/
abbrev StreamId := Fin 8

/-- A page number, 0 to 63 (R19). -/
abbrev PageId := Fin 64

/-- An upstream port number, 0 to 3 for U0 to U3. -/
abbrev PortId := Fin 4

/-- A transaction-table entry number, 0 to 47 (R120). -/
abbrev EntryId := Fin 48

end Sys2Proof
end

