-- ==== Sys2Proof/Config.lean ====
section
/-! DEFINITION. What this implementation of the part fixes. The manual applies to revision 1 and leaves no value open
that an event produces, so there is no free value here. -/

namespace Sys2Proof.Config

/-- The part code that NOP returns (R173). -/
def partCode : Word16 := 0x2408

/-- The revision that NOP returns (R173). -/
def revision : Byte := 1

/-- The last byte address of the 40-bit address space (00_scope.md section 5.1). -/
def topAddress : Nat := 0xFFFFFFFFFF

end Sys2Proof.Config
end

