-- ==== Sys2Proof/Syntax.lean ====
section
/-! DEFINITION. The events and commands of the part: one constructor of Instr for each row of spec/opcode_table.json,
with the operands that the row's rule gives it. -/

namespace Sys2Proof

/-- The kind of a request, a piece or an entry (R99). -/
inductive Access
  | read
  | write
  deriving DecidableEq, Repr

/-- The two consumer slots of a stream: slot A is slot 0, slot B is slot 1 (00_scope.md section 5.2). -/
inductive SlotId
  | a
  | b
  deriving DecidableEq, Repr

/-- The sixteen data bytes of a beat: byte i belongs at beat address + i (R183). -/
abbrev BeatData := Vector Byte 16

/-- A beat that travels towards memory: data and sixteen byte enables, bit i for byte i (R99, R183). -/
structure WriteBeat where
  data : BeatData
  enables : BitVec 16
  deriving DecidableEq, Repr

/-- A request message on an upstream link (R99, R183). `len` is the wire field: length in beats minus 1.
`beats` are the beats that arrived, however many (R184). -/
structure Request where
  kind : Access
  addr : Addr
  len : BitVec 4
  id : BitVec 4
  tag : BitVec 6
  beats : List WriteBeat
  deriving DecidableEq, Repr

/-- The status bit of a completion (R183). -/
inductive CompletionStatus
  | ok
  | error
  deriving DecidableEq, Repr

/-- A completion message on the downstream link (R141, R183), with any number of beats. -/
structure Completion where
  tag : BitVec 7
  status : CompletionStatus
  beats : List BeatData
  deriving DecidableEq, Repr

/-- The levels of the four URG lines at an event, true for high (R143). -/
abbrev UrgLevels := Vector Bool 4

/-- What a management frame carries behind the bytes that its command needs: further whole bytes, which are ignored
(R166), and the bits of a partial byte in the order sampled, which are discarded (R164). -/
structure FrameTail where
  extra : List Byte
  partialBits : List Bool
  deriving DecidableEq, Repr

/-- The arguments of SET-STREAM, as the bytes of its frame give them (R171, R186). -/
structure SetStreamArgs where
  stream : Byte
  base : Addr
  lines : Word16
  lineLength : Word16
  stride : Word32
  transform : Byte
  producerTag : Byte
  takePolicy : Byte
  poolPolicy : Byte
  fill : Word32
  deriving DecidableEq, Repr

/-- The arguments of SET-CONSUMER, as the bytes of its frame give them (R171, R186). -/
structure SetConsumerArgs where
  stream : Byte
  slot : Byte
  enable : Byte
  tag : Byte
  base : Addr
  lines : Word16
  lineLength : Word16
  cropLine : Word16
  cropByte : Word16
  staleThreshold : Byte
  deriving DecidableEq, Repr

/-- The arguments of ASSIGN-PAGE, as the bytes of its frame give them (R171, R186). -/
structure AssignPageArgs where
  page : Byte
  stream : Byte
  base : Addr
  size : Word32
  deriving DecidableEq, Repr

/-- The events and commands of the part, one constructor per row of spec/opcode_table.json. -/
inductive Instr
  /-- BOUNDARY_EVENT (R41): a qualified rising edge on FBn. -/
  | boundaryEvent (n : StreamId)
  /-- TAKE_EVENT (R65): a qualified rising edge on TKnA or TKnB. -/
  | takeEvent (n : StreamId) (x : SlotId)
  /-- ACCEPTANCE (R101): port p tests its head request, which is r unless an earlier request still waits;
  urg are the URG levels at any grant within the event. -/
  | acceptance (p : PortId) (r : Request) (urg : UrgLevels)
  /-- INDICATION (R140): room for one piece; urg are the URG levels at the grant within the event. -/
  | indication (urg : UrgLevels)
  /-- DOWNSTREAM_COMPLETION (R125, R141). -/
  | downstreamCompletion (c : Completion)
  /-- DELIVERY (R129): the link partner of port p takes the presented response. -/
  | delivery (p : PortId)
  /-- NOP (R173). -/
  | nop (f : FrameTail)
  /-- SET_STREAM (R7). -/
  | setStream (a : SetStreamArgs) (f : FrameTail)
  /-- CLEAR_STREAM (R86). -/
  | clearStream (stream : Byte) (f : FrameTail)
  /-- SET_CONSUMER (R10). -/
  | setConsumer (a : SetConsumerArgs) (f : FrameTail)
  /-- ASSIGN_PAGE (R24). -/
  | assignPage (a : AssignPageArgs) (f : FrameTail)
  /-- UNASSIGN_PAGE (R25). -/
  | unassignPage (page : Byte) (f : FrameTail)
  /-- START_STREAM (R88). -/
  | startStream (stream : Byte) (f : FrameTail)
  /-- STOP_STREAM (R91). -/
  | stopStream (stream : Byte) (f : FrameTail)
  /-- FREEZE (R11). -/
  | freeze (stream target on : Byte) (f : FrameTail)
  /-- SET_ARBITER (R146): the weights of U0 to U3. -/
  | setArbiter (w0 w1 w2 w3 : Byte) (f : FrameTail)
  /-- SET_EVENTS (R158). -/
  | setEvents (watermark : Byte) (mask : Word16) (f : FrameTail)
  /-- POP_EVENTS (R155). -/
  | popEvents (count : Byte) (f : FrameTail)
  /-- READ_STREAM (R18). -/
  | readStream (stream : Byte) (f : FrameTail)
  /-- READ_PAGE (R38). -/
  | readPage (page : Byte) (f : FrameTail)
  /-- READ_COUNTERS (R162, R178). -/
  | readCounters (group number slot clear : Byte) (f : FrameTail)
  /-- DATAPATH_RESET (R179). -/
  | datapathReset (confirmation : Byte) (f : FrameTail)
  /-- UNKNOWN_COMMAND (R166): the code and, in the tail, every byte behind it. -/
  | unknownCommand (code : Byte) (f : FrameTail)
  /-- DISCARDED_FRAME (R165): a frame of no whole byte, with the bits of its partial byte. -/
  | discardedFrame (partialBits : List Bool)
  /-- PIN_RESET (R182): RESETN goes low. -/
  | pinReset
  /-- RESETN_RISE (R182): RESETN goes high; mcsLow says whether chip select is low at that moment (R165). -/
  | resetnRise (mcsLow : Bool)
  /-- SHORT_FRAME (R166): a defined code and, in the tail, the argument bytes that did arrive. -/
  | shortFrame (code : Byte) (f : FrameTail)
  /-- CHIP_SELECT_RISE_AFTER_PIN_RESET (R165). -/
  | chipSelectRiseAfterPinReset
  deriving DecidableEq, Repr

end Sys2Proof
end

