-- ==== Sys2Proof/Decode.lean ====
section
/-! DEFINITION. Reading and writing management frames as bits and bytes (R164, R166, R171, R186), and decodeTableWord. -/

namespace Sys2Proof

/-- The table of operations gives no row any bits (every row's "fields" is empty), so no word spells an event. -/
def decodeTableWord (_nbits _w : Nat) : Option Instr := none

/-- The number of argument bytes of each of the sixteen command codes; none for an undefined code (R171). -/
def commandArgs (code : Byte) : Option Nat :=
  match code with
  | 0x00 => some 0
  | 0x10 => some 22
  | 0x11 => some 1
  | 0x12 => some 18
  | 0x20 => some 11
  | 0x21 => some 1
  | 0x30 => some 1
  | 0x31 => some 1
  | 0x32 => some 3
  | 0x40 => some 4
  | 0x41 => some 3
  | 0x50 => some 1
  | 0x51 => some 1
  | 0x52 => some 1
  | 0x53 => some 4
  | 0x7E => some 1
  | _ => none

/-! Most significant byte first (R185, R166). -/

/-- Two bytes as a 16-bit number. -/
def joinWord16 (b0 b1 : Byte) : Word16 := b0 ++ b1

/-- Four bytes as a 32-bit number. -/
def joinWord32 (b0 b1 b2 b3 : Byte) : Word32 := b0 ++ b1 ++ b2 ++ b3

/-- Five bytes as an address. -/
def joinAddr (b0 b1 b2 b3 b4 : Byte) : Addr := b0 ++ b1 ++ b2 ++ b3 ++ b4

/-- The two bytes of a 16-bit number. -/
def word16Bytes (w : Word16) : List Byte := [w.extractLsb' 8 8, w.extractLsb' 0 8]

/-- The four bytes of a 32-bit number. -/
def word32Bytes (w : Word32) : List Byte :=
  [w.extractLsb' 24 8, w.extractLsb' 16 8, w.extractLsb' 8 8, w.extractLsb' 0 8]

/-- The five bytes of an address. -/
def addrBytes (w : Addr) : List Byte :=
  [w.extractLsb' 32 8, w.extractLsb' 24 8, w.extractLsb' 16 8, w.extractLsb' 8 8, w.extractLsb' 0 8]

/-! Argument layouts by offset from the first argument byte (R186). -/

/-- The argument byte at an offset; the length test of R166 has been made before. -/
def argByte (args : List Byte) (k : Nat) : Byte := args.getD k 0

/-- The 16-bit argument at an offset. -/
def argWord16 (args : List Byte) (k : Nat) : Word16 := joinWord16 (argByte args k) (argByte args (k + 1))

/-- The 32-bit argument at an offset. -/
def argWord32 (args : List Byte) (k : Nat) : Word32 :=
  joinWord32 (argByte args k) (argByte args (k + 1)) (argByte args (k + 2)) (argByte args (k + 3))

/-- The address argument at an offset. -/
def argAddr (args : List Byte) (k : Nat) : Addr :=
  joinAddr (argByte args k) (argByte args (k + 1)) (argByte args (k + 2)) (argByte args (k + 3)) (argByte args (k + 4))

/-- SET-STREAM's arguments (R186). -/
def decodeSetStream (args : List Byte) : SetStreamArgs :=
  { stream := argByte args 0, base := argAddr args 1, lines := argWord16 args 6, lineLength := argWord16 args 8,
    stride := argWord32 args 10, transform := argByte args 14, producerTag := argByte args 15,
    takePolicy := argByte args 16, poolPolicy := argByte args 17, fill := argWord32 args 18 }

/-- SET-CONSUMER's arguments (R186). -/
def decodeSetConsumer (args : List Byte) : SetConsumerArgs :=
  { stream := argByte args 0, slot := argByte args 1, enable := argByte args 2, tag := argByte args 3,
    base := argAddr args 4, lines := argWord16 args 9, lineLength := argWord16 args 11, cropLine := argWord16 args 13,
    cropByte := argWord16 args 15, staleThreshold := argByte args 17 }

/-- ASSIGN-PAGE's arguments (R186). -/
def decodeAssignPage (args : List Byte) : AssignPageArgs :=
  { page := argByte args 0, stream := argByte args 1, base := argAddr args 2, size := argWord32 args 7 }

/-- The command of a frame whose code has argument count `n` and whose argument bytes are all there: the arguments by
their offsets (R186), the bytes behind them ignored (R166). -/
def decodeCommand (code : Byte) (args : List Byte) (f : FrameTail) : Instr :=
  match code with
  | 0x00 => .nop f
  | 0x10 => .setStream (decodeSetStream args) f
  | 0x11 => .clearStream (argByte args 0) f
  | 0x12 => .setConsumer (decodeSetConsumer args) f
  | 0x20 => .assignPage (decodeAssignPage args) f
  | 0x21 => .unassignPage (argByte args 0) f
  | 0x30 => .startStream (argByte args 0) f
  | 0x31 => .stopStream (argByte args 0) f
  | 0x32 => .freeze (argByte args 0) (argByte args 1) (argByte args 2) f
  | 0x40 => .setArbiter (argByte args 0) (argByte args 1) (argByte args 2) (argByte args 3) f
  | 0x41 => .setEvents (argByte args 0) (argWord16 args 1) f
  | 0x50 => .popEvents (argByte args 0) f
  | 0x51 => .readStream (argByte args 0) f
  | 0x52 => .readPage (argByte args 0) f
  | 0x53 => .readCounters (argByte args 0) (argByte args 1) (argByte args 2) (argByte args 3) f
  | 0x7E => .datapathReset (argByte args 0) f
  | c => .unknownCommand c f

/-- What a management frame of these whole bytes and these partial bits is, at the rise of chip select: discarded with
no whole byte (R165), else UNKNOWN, SHORT or a command (R166). -/
def decodeFrame (bytes : List Byte) (partialBits : List Bool) : Instr :=
  match bytes with
  | [] => .discardedFrame partialBits
  | code :: args =>
    match commandArgs code with
    | none => .unknownCommand code { extra := args, partialBits := partialBits }
    | some n =>
      if args.length < n then .shortFrame code { extra := args, partialBits := partialBits }
      else decodeCommand code args { extra := args.drop n, partialBits := partialBits }

/-- Eight bits as sampled, most significant first, as a byte (R164). -/
def byteOfBits (b7 b6 b5 b4 b3 b2 b1 b0 : Bool) : Byte :=
  BitVec.ofNat 8 (128 * b7.toNat + 64 * b6.toNat + 32 * b5.toNat + 16 * b4.toNat + 8 * b3.toNat + 4 * b2.toNat
    + 2 * b1.toNat + b0.toNat)

/-- The whole bytes and the partial byte's bits of the bits sampled on serial data in, one per rising clock edge (R164). -/
def receiveBits : List Bool → List Byte × List Bool
  | b7 :: b6 :: b5 :: b4 :: b3 :: b2 :: b1 :: b0 :: rest =>
    let r := receiveBits rest
    (byteOfBits b7 b6 b5 b4 b3 b2 b1 b0 :: r.1, r.2)
  | bits => ([], bits)

/-- The event that a serial frame of these bits is. -/
def decodeSerial (bits : List Bool) : Instr := decodeFrame (receiveBits bits).1 (receiveBits bits).2

/-! Writing a frame. -/

/-- SET-STREAM's argument bytes (R186). -/
def setStreamBytes (a : SetStreamArgs) : List Byte :=
  [a.stream] ++ addrBytes a.base ++ word16Bytes a.lines ++ word16Bytes a.lineLength ++ word32Bytes a.stride
    ++ [a.transform, a.producerTag, a.takePolicy, a.poolPolicy] ++ word32Bytes a.fill

/-- SET-CONSUMER's argument bytes (R186). -/
def setConsumerBytes (a : SetConsumerArgs) : List Byte :=
  [a.stream, a.slot, a.enable, a.tag] ++ addrBytes a.base ++ word16Bytes a.lines ++ word16Bytes a.lineLength
    ++ word16Bytes a.cropLine ++ word16Bytes a.cropByte ++ [a.staleThreshold]

/-- ASSIGN-PAGE's argument bytes (R186). -/
def assignPageBytes (a : AssignPageArgs) : List Byte :=
  [a.page, a.stream] ++ addrBytes a.base ++ word32Bytes a.size

/-- The whole bytes of the management frame that a command is, and its partial bits; none for an event that is no
management frame (R166, R171). -/
def frameOf (i : Instr) : Option (List Byte × List Bool) :=
  match i with
  | .nop f => some ([0x00] ++ f.extra, f.partialBits)
  | .setStream a f => some ([0x10] ++ setStreamBytes a ++ f.extra, f.partialBits)
  | .clearStream n f => some ([0x11, n] ++ f.extra, f.partialBits)
  | .setConsumer a f => some ([0x12] ++ setConsumerBytes a ++ f.extra, f.partialBits)
  | .assignPage a f => some ([0x20] ++ assignPageBytes a ++ f.extra, f.partialBits)
  | .unassignPage p f => some ([0x21, p] ++ f.extra, f.partialBits)
  | .startStream n f => some ([0x30, n] ++ f.extra, f.partialBits)
  | .stopStream n f => some ([0x31, n] ++ f.extra, f.partialBits)
  | .freeze n t o f => some ([0x32, n, t, o] ++ f.extra, f.partialBits)
  | .setArbiter a b c d f => some ([0x40, a, b, c, d] ++ f.extra, f.partialBits)
  | .setEvents w m f => some ([0x41, w] ++ word16Bytes m ++ f.extra, f.partialBits)
  | .popEvents n f => some ([0x50, n] ++ f.extra, f.partialBits)
  | .readStream n f => some ([0x51, n] ++ f.extra, f.partialBits)
  | .readPage p f => some ([0x52, p] ++ f.extra, f.partialBits)
  | .readCounters g n x c f => some ([0x53, g, n, x, c] ++ f.extra, f.partialBits)
  | .datapathReset c f => some ([0x7E, c] ++ f.extra, f.partialBits)
  | .unknownCommand c f => some ([c] ++ f.extra, f.partialBits)
  | .discardedFrame bits => some ([], bits)
  | .shortFrame c f => some ([c] ++ f.extra, f.partialBits)
  | .boundaryEvent _ => none
  | .takeEvent _ _ => none
  | .acceptance _ _ _ => none
  | .indication _ => none
  | .downstreamCompletion _ => none
  | .delivery _ => none
  | .pinReset => none
  | .resetnRise _ => none
  | .chipSelectRiseAfterPinReset => none

/-- The eight bits of a byte in the order in which they travel, most significant first (R164). -/
def byteBits (b : Byte) : List Bool :=
  [b.getLsbD 7, b.getLsbD 6, b.getLsbD 5, b.getLsbD 4, b.getLsbD 3, b.getLsbD 2, b.getLsbD 1, b.getLsbD 0]

/-! Wire codes of the burst links (R183). -/

/-- The kind bit: 0 READ, 1 WRITE. -/
def Access.code : Access → BitVec 1
  | .read => 0
  | .write => 1

/-- The kind that a kind bit stands for. -/
def accessOf (b : BitVec 1) : Access := if b = 0 then .read else .write

/-- The status bit of a completion: 0 OK, 1 ERROR. -/
def CompletionStatus.code : CompletionStatus → BitVec 1
  | .ok => 0
  | .error => 1

/-- The status that a completion's status bit stands for. -/
def completionStatusOf (b : BitVec 1) : CompletionStatus := if b = 0 then .ok else .error

/-- The request that a link's header fields and beats are. -/
def decodeRequest (kind : BitVec 1) (addr : Addr) (len id : BitVec 4) (tag : BitVec 6) (beats : List WriteBeat) : Request :=
  { kind := accessOf kind, addr := addr, len := len, id := id, tag := tag, beats := beats }

/-- The completion that a link's header fields and beats are. -/
def decodeCompletion (tag : BitVec 7) (status : BitVec 1) (beats : List BeatData) : Completion :=
  { tag := tag, status := completionStatusOf status, beats := beats }

/-- The bits that a frame of these whole bytes and these partial bits puts on serial data in (R164). -/
def serialBits (bytes : List Byte) (partialBits : List Bool) : List Bool := bytes.flatMap byteBits ++ partialBits

end Sys2Proof
end

