-- ==== Sys2Proof/Machine/State.lean ====
section
/-! DEFINITION. The state of the part: every table, list, register, flag, counter and line that the manual gives it, the
links' side of it that its rules read, and the queue of events. -/

namespace Sys2Proof.Machine

/-! ## Streams and slots (R1, R3) -/

/-- The four lifecycle states (R84). -/
inductive StreamState
  | undefined
  | off
  | running
  | stopping
  deriving DecidableEq, Repr

/-- How producer lines map to page lines (R12). -/
inductive Transform
  | linear
  | vflip
  | weave
  deriving DecidableEq, Repr

/-- How a take chooses its frame (R67, R68). -/
inductive TakePolicy
  | newest
  | oldest
  deriving DecidableEq, Repr

/-- What a closing boundary does when no page is FREE (R47, R48). -/
inductive PoolPolicy
  | recycle
  | sink
  deriving DecidableEq, Repr

/-- A consumer slot record (R3). -/
structure Slot where
  enabled : Bool
  tag : BitVec 6
  base : Addr
  lines : Word16
  lineLength : Word16
  cropLine : Word16
  cropByte : Word16
  staleThreshold : Byte
  freeze : Bool
  held : Option PageId
  lastTaken : Option Word32
  repeatsInRow : Nat
  staleRaised : Bool
  takes : Word32
  repeats : Word32
  frozenTakes : Word32
  deriving DecidableEq, Repr

/-- A stream record with its two slot records and its six counters (R1, R3, R39, R60). -/
structure Stream where
  state : StreamState
  base : Addr
  lines : Word16
  lineLength : Word16
  stride : Word32
  transform : Transform
  producerTag : BitVec 6
  takePolicy : TakePolicy
  poolPolicy : PoolPolicy
  fill : Word32
  freeze : Bool
  ring : List PageId
  ready : List PageId
  fillPage : Option PageId
  starved : Bool
  starvedFrames : Nat
  parity : Bool
  nextFrame : Word32
  closed : Word32
  heldFrames : Word32
  sunk : Word32
  published : Word32
  damaged : Word32
  dropped : Word32
  slotA : Slot
  slotB : Slot
  deriving DecidableEq, Repr

/-! ## Pages (R19) -/

/-- The seven page stages (R21). -/
inductive Stage
  | unassigned
  | free
  | filling
  | closing
  | sealed
  | published
  | retiring
  deriving DecidableEq, Repr

/-- A page descriptor (R19); holdA and holdB are the holders set (R33). -/
structure Page where
  stage : Stage
  owner : Option StreamId
  base : Addr
  size : Word32
  frame : Option Word32
  writeCount : Nat
  readCount : Nat
  holdA : Bool
  holdB : Bool
  damaged : Bool
  deriving DecidableEq, Repr

/-! ## The transaction table (R120) -/

/-- The five entry states (R121). -/
inductive EntryState
  | free
  | queued
  | issued
  | doneWaiting
  | orphaned
  deriving DecidableEq, Repr

/-- The seven refusal reasons (R100); privatePage is the manual's PRIVATE. -/
inductive Reason
  | range
  | align
  | role
  | privatePage
  | idle
  | stopping
  | reset
  deriving DecidableEq, Repr

/-- The five dispositions (chapter 6). -/
inductive Disposition
  | pass
  | aperture
  | blank
  | sunk
  | refused (r : Reason)
  deriving DecidableEq, Repr

/-- Through which aperture of its stream a request came: the producer's or a slot's (R120). -/
inductive Role
  | producer
  | slot (x : SlotId)
  deriving DecidableEq, Repr

/-- Stream, role and page of an APERTURE entry (R120). -/
structure Target where
  stream : StreamId
  role : Role
  page : PageId
  deriving DecidableEq, Repr

/-- Status of a piece (R120). -/
inductive PieceStatus
  | queued
  | outstanding
  | ok
  | error
  | removed
  deriving DecidableEq, Repr

/-- A piece of an entry (R120): its downstream address, its length in beats, the beats of a WRITE until it is issued,
its status and the beats that a completed READ keeps. Its downstream tag is given by its place in its entry. -/
structure Piece where
  addr : Addr
  length : Nat
  data : List WriteBeat
  status : PieceStatus
  readData : List BeatData
  deriving DecidableEq, Repr

/-- Status of a response (R100). -/
inductive ResponseStatus
  | done
  | refused
  | fault
  deriving DecidableEq, Repr

/-- A prepared response (R100, R120). -/
structure Response where
  status : ResponseStatus
  reason : Option Reason
  data : List BeatData
  deriving DecidableEq, Repr

/-- A transaction-table entry (R120). -/
structure Entry where
  state : EntryState
  port : PortId
  id : BitVec 4
  tag : BitVec 6
  kind : Access
  length : Nat
  disposition : Disposition
  target : Option Target
  pieces : List Piece
  prepared : Option Response
  deriving DecidableEq, Repr

/-- A downstream tag: first or second piece of an entry. Its value on the link is 2e or 2e + 1 (R120). -/
structure PieceRef where
  entry : EntryId
  second : Bool
  deriving DecidableEq, Repr

/-- An upstream port: its non-FREE entries in acceptance order (R120), its issue queue (R137), the entry whose response
stands on the link (R129), its arbiter share (R142) and its counters (R119, R126). -/
structure Port where
  order : List EntryId
  queue : List PieceRef
  presented : Option EntryId
  weight : Nat
  credit : Nat
  accepted : Word32
  refused : Word32
  faults : Word32
  deriving DecidableEq, Repr

/-- The datapath state (R133). -/
inductive Datapath
  | normal
  | quiescing
  deriving DecidableEq, Repr

/-! ## Events (R151) -/

/-- The ten event kinds (chapter 9). -/
inductive EventKind
  | frameDropped
  | frameDamaged
  | producerStarved
  | producerResumed
  | consumerStale
  | requestRefused
  | downstreamFault
  | streamStopped
  | datapathQuiet
  | eventsLost
  deriving DecidableEq, Repr

/-- An event record: a kind and nine fields, each present or absent (R151). -/
structure EventRecord where
  kind : EventKind
  stream : Option StreamId := none
  slot : Option SlotId := none
  page : Option PageId := none
  port : Option PortId := none
  tag : Option (BitVec 6) := none
  reason : Option Reason := none
  frame : Option Word32 := none
  addr : Option Addr := none
  count : Option Word32 := none
  deriving DecidableEq, Repr

/-! ## The management port -/

/-- The receiver (R164): whole inbound bytes, bits of the partial byte, position of the next outbound byte. Between frames
it keeps the whole bytes of the last frame (log 7). -/
structure Receiver where
  bytes : List Byte
  bits : List Bool
  outPosition : Nat
  deriving DecidableEq, Repr

/-- What the part does to MDO: it does not drive it, or drives it to a level, true for high (R164, R165, R182). -/
inductive Mdo
  | notDriven
  | driven (level : Bool)
  deriving DecidableEq, Repr

/-! ## Lines and links -/

/-- A piece as it goes out on the downstream link, in the field widths of the link (R139, R183): `len` is the length in
beats minus 1. -/
structure PieceMessage where
  kind : BitVec 1
  addr : Addr
  len : BitVec 4
  downTag : BitVec 7
  tag : BitVec 6
  beats : List WriteBeat
  deriving DecidableEq, Repr

/-- A response as it goes out on the link of a port, in the field widths of the link (R100, R183). -/
structure ResponseMessage where
  port : PortId
  id : BitVec 4
  status : BitVec 2
  reason : BitVec 3
  beats : List BeatData
  deriving DecidableEq, Repr

/-- The links' side: the URG levels last seen (R143), the head request that each upstream link presents and the port has
left waiting (R101), and the model's own record of everything the part has sent: pieces, responses and, for each
management frame, the bits driven on MDO in the order driven (R139, R100, R164, R169, log 6). -/
structure Links where
  urg : UrgLevels
  waiting : Vector (Option Request) 4
  sentPieces : List PieceMessage
  sentResponses : List ResponseMessage
  mdoBits : List (List Bool)
  deriving DecidableEq, Repr

/-! ## The state -/

/-- The part, its links and the queue of events. -/
structure State where
  streams : Vector Stream 8
  pages : Vector Page 64
  entries : Vector Entry 48
  ports : Vector Port 4
  pointer : PortId
  indications : Nat
  datapath : Datapath
  stray : Word32
  events : List EventRecord
  watermark : Nat
  kindMask : BitVec 9
  lost : Nat
  attn : Bool
  response : List Byte
  rx : Receiver
  awaitRise : Bool
  mdo : Mdo
  resetn : Bool
  links : Links
  pending : List Instr
  deriving DecidableEq, Repr

/-- The part never stops: the manual gives every event an outcome in every state, so no fault has a name. -/
inductive Fault
  deriving DecidableEq, Repr

/-- Why an event could be refused. -/
inductive Refusal
  /-- Raised by exec alone, for an event that has no meaning yet; safe. No arm raises it. -/
  | notModelled (mnemonic : String)
  deriving DecidableEq, Repr

/-! ## Reset -/

/-- A slot after pin reset (R4). -/
def Slot.blank : Slot :=
  { enabled := false, tag := 0, base := 0, lines := 0, lineLength := 0, cropLine := 0, cropByte := 0,
    staleThreshold := 0, freeze := false, held := none, lastTaken := none, repeatsInRow := 0, staleRaised := false,
    takes := 0, repeats := 0, frozenTakes := 0 }

/-- A stream after pin reset (R2). -/
def Stream.blank : Stream :=
  { state := .undefined, base := 0, lines := 0, lineLength := 0, stride := 0, transform := .linear, producerTag := 0,
    takePolicy := .newest, poolPolicy := .recycle, fill := 0, freeze := false, ring := [], ready := [],
    fillPage := none, starved := false, starvedFrames := 0, parity := false, nextFrame := 0, closed := 0,
    heldFrames := 0, sunk := 0, published := 0, damaged := 0, dropped := 0, slotA := Slot.blank, slotB := Slot.blank }

/-- A page after pin reset (R20). -/
def Page.blank : Page :=
  { stage := .unassigned, owner := none, base := 0, size := 0, frame := none, writeCount := 0, readCount := 0,
    holdA := false, holdB := false, damaged := false }

/-- A FREE entry (R121). Its other fields mean nothing (R120) and are kept blank. -/
def Entry.blank : Entry :=
  { state := .free, port := 0, id := 0, tag := 0, kind := .read, length := 0, disposition := .pass, target := none,
    pieces := [], prepared := none }

/-- A port after pin reset (R119, R121, R142). -/
def Port.blank : Port :=
  { order := [], queue := [], presented := none, weight := 1, credit := 1, accepted := 0, refused := 0, faults := 0 }

/-- The receiver with nothing received (R164). -/
def Receiver.empty : Receiver := { bytes := [], bits := [], outPosition := 0 }

/-- Links on which nothing stands and nothing has been sent; the URG levels are low by DESIGN CHOICE (log 4). -/
def Links.quiet : Links :=
  { urg := Vector.replicate 4 false, waiting := Vector.replicate 4 none, sentPieces := [], sentResponses := [],
    mdoBits := [] }

/-- The part right after a pin reset, with RESETN high again and chip select high (R2, R4, R20, R121, R133, R137, R142,
R149, R160, R161, R165, R170, R182; the levels of RESETN and chip select are log 9). -/
def State.reset : State :=
  { streams := Vector.replicate 8 Stream.blank
    pages := Vector.replicate 64 Page.blank
    entries := Vector.replicate 48 Entry.blank
    ports := Vector.replicate 4 Port.blank
    pointer := 0
    indications := 0
    datapath := .normal
    stray := 0
    events := []
    watermark := 1
    kindMask := 0x1FF
    lost := 0
    attn := false
    response := [0x00, 0x24, 0x08, 0x01, 0x00, 0x00, 0x00]
    rx := Receiver.empty
    awaitRise := false
    mdo := .notDriven
    resetn := true
    links := Links.quiet
    pending := [] }

end Sys2Proof.Machine
end

