-- ==== Sys2Proof/Machine/Flags.lean ====
section
/-! DEFINITION. The one-line tests that the rules make over and over: the newer relation, the ATTN comparison, the slot
condition, idle and unheld pages, entries with traffic in flight. -/

namespace Sys2Proof.Machine

/-- Frame number a is newer than b when (a − b) modulo 2^32 lies between 1 and 2^31 − 1 (00_scope.md section 5.1). -/
def newer (a b : Word32) : Bool := decide (1 ≤ (a - b).toNat) && decide ((a - b).toNat ≤ 2 ^ 31 - 1)

/-- A page's frame number is newer than a slot's last taken frame number; any number is, when that is absent (R67, R68). -/
def newerThanTaken (frame lastTaken : Option Word32) : Bool :=
  match lastTaken, frame with
  | none, _ => true
  | some l, some f => newer f l
  | some _, none => false

/-- Page number a carries an older frame than b (R54). -/
def olderFrame (a b : Option Word32) : Bool :=
  match a, b with
  | some x, some y => newer y x
  | _, _ => false

/-- ATTN is high while the number of records is at least the watermark (R157). -/
def attnLevel (records watermark : Nat) : Bool := decide (watermark ≤ records)

/-- Both counts of a page are 0 (R31, R32). -/
def Page.idle (p : Page) : Bool := p.writeCount == 0 && p.readCount == 0

/-- The holders set of a page is empty (R33). -/
def Page.unheld (p : Page) : Bool := !p.holdA && !p.holdB

/-- A page in any stage other than UNASSIGNED (R19). -/
def Page.assigned (p : Page) : Bool := p.stage != .unassigned

/-- A page in CLOSING or SEALED (R54). -/
def Page.isPending (p : Page) : Bool := p.stage == .closing || p.stage == .sealed

/-- A page in FILLING, CLOSING, SEALED or PUBLISHED, as STOP-STREAM releases (R91). -/
def Page.inCycle (p : Page) : Bool :=
  p.stage == .filling || p.stage == .closing || p.stage == .sealed || p.stage == .published

/-- A slot has passed a frame: it is DISABLED, or its last taken frame number is that frame's or newer (R76). -/
def Slot.passed (sl : Slot) (frame : Option Word32) : Bool :=
  !sl.enabled || match sl.lastTaken, frame with
    | some l, some f => l == f || newer l f
    | _, _ => false

/-- A piece of the entry is queued or outstanding (R28, R29). -/
def Entry.inFlight (e : Entry) : Bool := e.pieces.any fun p => p.status == .queued || p.status == .outstanding

/-- A piece of the entry is outstanding (R129, R131). -/
def Entry.anyOutstanding (e : Entry) : Bool := e.pieces.any fun p => p.status == .outstanding

/-- An undelivered entry: QUEUED, ISSUED or DONE-WAITING (R128). -/
def Entry.undelivered (e : Entry) : Bool :=
  e.state == .queued || e.state == .issued || e.state == .doneWaiting

/-- The response REFUSED with reason RESET and no data (R130). -/
def refusedReset : Response := { status := .refused, reason := some .reset, data := [] }

/-- The entry holds the datapath in QUIESCING: an undelivered REFUSED RESET, or ORPHANED (R133). -/
def Entry.holdsQuiesce (e : Entry) : Bool :=
  e.state == .orphaned || (e.state == .doneWaiting && e.prepared == some refusedReset)

end Sys2Proof.Machine
end

