-- ==== Sys2Proof/Machine/Operands.lean ====
section
/-! DEFINITION. Operand forms: the code tables of the management port in both directions (R185), selectors, address
ranges, the beats of a request (R184) and of a completion (R141). -/

namespace Sys2Proof.Machine

/-! ## Code tables (R185) -/

/-- An off/on byte. -/
def flagOf (b : Byte) : Option Bool :=
  match b with
  | 0 => some false
  | 1 => some true
  | _ => none

/-- A transform byte. -/
def transformOf (b : Byte) : Option Transform :=
  match b with
  | 0 => some .linear
  | 1 => some .vflip
  | 2 => some .weave
  | _ => none

/-- A take policy byte. -/
def takePolicyOf (b : Byte) : Option TakePolicy :=
  match b with
  | 0 => some .newest
  | 1 => some .oldest
  | _ => none

/-- A pool policy byte. -/
def poolPolicyOf (b : Byte) : Option PoolPolicy :=
  match b with
  | 0 => some .recycle
  | 1 => some .sink
  | _ => none

/-- The three targets of FREEZE (R11). -/
inductive FreezeTarget
  | producer
  | slot (x : SlotId)
  deriving DecidableEq, Repr

/-- A freeze target byte. -/
def freezeTargetOf (b : Byte) : Option FreezeTarget :=
  match b with
  | 0 => some .producer
  | 1 => some (.slot .a)
  | 2 => some (.slot .b)
  | _ => none

/-- A stream number byte: 0 to 7. -/
def streamOf (b : Byte) : Option StreamId := if h : b.toNat < 8 then some ⟨b.toNat, h⟩ else none

/-- A slot number byte: 0 or 1. -/
def slotOf (b : Byte) : Option SlotId :=
  match b with
  | 0 => some .a
  | 1 => some .b
  | _ => none

/-- A page number byte: 0 to 63. -/
def pageOf (b : Byte) : Option PageId := if h : b.toNat < 64 then some ⟨b.toNat, h⟩ else none

/-- A port number byte: 0 to 3. -/
def portOf (b : Byte) : Option PortId := if h : b.toNat < 4 then some ⟨b.toNat, h⟩ else none

/-- The counter groups (R161). -/
inductive CounterGroup
  | stream (n : StreamId)
  | slot (n : StreamId) (x : SlotId)
  | port (p : PortId)
  | device
  deriving DecidableEq, Repr

/-- The group that READ-COUNTERS's kind, number and slot bytes name; ignored bytes are not looked at (R178). -/
def groupOf (kind number slot : Byte) : Option CounterGroup :=
  match kind with
  | 0 => (streamOf number).map .stream
  | 1 => (streamOf number).bind fun n => (slotOf slot).map (.slot n)
  | 2 => (portOf number).map .port
  | 3 => some .device
  | _ => none

/-- Result codes (R171). -/
inductive ResultCode
  | ok
  | busy
  | badState
  | badArg
  | geometry
  | overlap
  | short
  | unknown
  deriving DecidableEq, Repr

/-- A result code's byte (R171). -/
def ResultCode.byte : ResultCode → Byte
  | .ok => 0x00
  | .busy => 0x01
  | .badState => 0x02
  | .badArg => 0x03
  | .geometry => 0x04
  | .overlap => 0x05
  | .short => 0x06
  | .unknown => 0x07

/-- An off/on flag's byte. -/
def flagByte (b : Bool) : Byte := if b then 1 else 0

/-- A transform's byte. -/
def Transform.byte : Transform → Byte
  | .linear => 0
  | .vflip => 1
  | .weave => 2

/-- A take policy's byte. -/
def TakePolicy.byte : TakePolicy → Byte
  | .newest => 0
  | .oldest => 1

/-- A pool policy's byte. -/
def PoolPolicy.byte : PoolPolicy → Byte
  | .recycle => 0
  | .sink => 1

/-- A stream state's byte. -/
def StreamState.byte : StreamState → Byte
  | .undefined => 0
  | .off => 1
  | .running => 2
  | .stopping => 3

/-- A page stage's byte. -/
def Stage.byte : Stage → Byte
  | .unassigned => 0
  | .free => 1
  | .filling => 2
  | .closing => 3
  | .sealed => 4
  | .published => 5
  | .retiring => 6

/-- A slot's condition byte: DISABLED, BLANK or SHOWING (R3). -/
def Slot.conditionByte (sl : Slot) : Byte :=
  if sl.enabled then (if sl.held.isSome then 2 else 1) else 0

/-- A datapath state's byte. -/
def Datapath.byte : Datapath → Byte
  | .normal => 0
  | .quiescing => 1

/-- A slot number's byte. -/
def slotByte : SlotId → Byte
  | .a => 0
  | .b => 1

/-- A refusal reason's code on an upstream link (R183). -/
def Reason.code : Reason → BitVec 3
  | .range => 1
  | .align => 2
  | .role => 3
  | .privatePage => 4
  | .idle => 5
  | .stopping => 6
  | .reset => 7

/-- The reason field of a response: 0 where there is no reason, with DONE and FAULT (R183, R184). -/
def reasonField (r : Option Reason) : BitVec 3 :=
  match r with
  | some why => why.code
  | none => 0

/-- The status field of a response (R183). -/
def ResponseStatus.code : ResponseStatus → BitVec 2
  | .done => 0
  | .refused => 1
  | .fault => 2

/-- A refusal reason's byte in an event record, which has the same codes (R188). -/
def Reason.byte (r : Reason) : Byte := r.code.setWidth 8

/-- An event kind's code (R188). -/
def EventKind.code : EventKind → Nat
  | .frameDropped => 1
  | .frameDamaged => 2
  | .producerStarved => 3
  | .producerResumed => 4
  | .consumerStale => 5
  | .requestRefused => 6
  | .downstreamFault => 7
  | .streamStopped => 8
  | .datapathQuiet => 9
  | .eventsLost => 10

/-! ## Ranges (00_scope.md section 5.1) -/

/-- A range of byte addresses: base to base + size − 1. -/
structure Range where
  base : Nat
  size : Nat
  deriving DecidableEq, Repr

/-- At least one byte address lies in both ranges. -/
def Range.overlaps (a b : Range) : Bool :=
  decide (0 < a.size) && decide (0 < b.size) && decide (a.base < b.base + b.size) && decide (b.base < a.base + a.size)

/-- Range a lies wholly inside range b. -/
def Range.inside (a b : Range) : Bool := decide (b.base ≤ a.base) && decide (a.base + a.size ≤ b.base + b.size)

/-- The range runs past the top of the address space: base + size − 1 exceeds 0xFF_FFFF_FFFF (R6, R9, R22, R103). -/
def Range.pastTop (a : Range) : Bool := decide (Config.topAddress < a.base + a.size - 1)

/-- The range of a page: base to base + size − 1 (R19). -/
def Page.range (p : Page) : Range := ⟨p.base.toNat, p.size.toNat⟩

/-- The producer aperture of a stream (R5). -/
def Stream.aperture (st : Stream) : Range := ⟨st.base.toNat, st.lines.toNat * st.lineLength.toNat⟩

/-- The aperture of a slot (R5). -/
def Slot.aperture (sl : Slot) : Range := ⟨sl.base.toNat, sl.lines.toNat * sl.lineLength.toNat⟩

/-- The page lines of a stream: its lines, or twice that in WEAVE (R1, R12). -/
def Stream.pageLines (st : Stream) : Nat :=
  match st.transform with
  | .linear => st.lines.toNat
  | .vflip => st.lines.toNat
  | .weave => 2 * st.lines.toNat

/-! ## Requests and completions -/

/-- A request's length in beats (R183). -/
def reqBeats (r : Request) : Nat := r.len.toNat + 1

/-- The request range (R99). -/
def reqRange (r : Request) : Range := ⟨r.addr.toNat, 16 * reqBeats r⟩

/-- A beat of zeros with no byte enabled, as missing beats are completed (R184). -/
def emptyBeat : WriteBeat := { data := Vector.replicate 16 0, enables := 0 }

/-- The beats a request is taken with: a WRITE's are cut or completed to its length, a READ has none (R184). -/
def reqData (r : Request) : List WriteBeat :=
  match r.kind with
  | .read => []
  | .write => (r.beats ++ List.replicate (reqBeats r) emptyBeat).take (reqBeats r)

/-- The status a completion is handed on with: a READ that is OK with too few beats is an ERROR (R141). -/
def checkedStatus (kind : Access) (length : Nat) (c : Completion) : CompletionStatus :=
  match c.status with
  | .error => .error
  | .ok => if kind == .read && decide (c.beats.length < length) then .error else .ok

/-- The beats a completed piece keeps: the first `length` beats of a READ that is OK, else none (R126, R141). -/
def keptBeats (kind : Access) (length : Nat) (c : Completion) : List BeatData :=
  match kind, checkedStatus kind length c with
  | .read, .ok => c.beats.take length
  | _, _ => []

/-- One BLANK beat: the fill value four times, its most significant byte at the lowest address (R14). -/
def fillBeat (v : Word32) : BeatData :=
  Vector.ofFn fun i => v.extractLsb' (24 - 8 * (i.val % 4)) 8

/-- The piece that a completion's tag names: tag t belongs to entry t div 2, first piece when even (R125); none above 95. -/
def refOfTag (t : BitVec 7) : Option PieceRef :=
  if h : t.toNat < 96 then some { entry := ⟨t.toNat / 2, by omega⟩, second := t.toNat % 2 == 1 } else none

/-- A downstream tag as the link carries it: 2e or 2e + 1 in 7 bits (R120, R139, R183). -/
def PieceRef.wireTag (r : PieceRef) : BitVec 7 := BitVec.ofNat 7 (2 * r.entry.val + (if r.second then 1 else 0))

/-- A length in beats as a link carries it: minus 1, in 4 bits (R183). -/
def lengthField (beats : Nat) : BitVec 4 := BitVec.ofNat 4 (beats - 1)

/-- The downstream tags of the pieces of entry e, in address order (R123). -/
def refsOf (e : EntryId) (pieces : List Piece) : List PieceRef :=
  match pieces with
  | [] => []
  | [_] => [⟨e, false⟩]
  | _ => [⟨e, false⟩, ⟨e, true⟩]

/-- The piece of an entry that a downstream tag names, when it exists. -/
def Entry.piece (e : Entry) (second : Bool) : Option Piece :=
  match second, e.pieces with
  | false, p :: _ => some p
  | true, _ :: p :: _ => some p
  | _, _ => none

/-- An entry with one of its pieces changed. -/
def Entry.modPiece (e : Entry) (second : Bool) (f : Piece → Piece) : Entry :=
  match second, e.pieces with
  | false, p :: rest => { e with pieces := f p :: rest }
  | true, p :: q :: rest => { e with pieces := p :: f q :: rest }
  | _, _ => e

end Sys2Proof.Machine
end

