-- ==== Sys2Proof/Machine/Ops.lean ====
section
/-! DEFINITION. Reading and updating the tables of State, and raising an event (R152). -/

namespace Sys2Proof.Machine

/-- Every row of a table changed by its index. -/
def mapAll {α : Type} {n : Nat} (t : Vector α n) (f : Fin n → α → α) : Vector α n :=
  ⟨((List.finRange n).map fun i => f i (t.get i)).toArray, by simp⟩

/-- A table with one row replaced. -/
def setRow {α : Type} {n : Nat} (t : Vector α n) (i : Fin n) (x : α) : Vector α n := t.set i.val x i.isLt

/-- The record of stream n. -/
def State.stream (s : State) (n : StreamId) : Stream := s.streams.get n

/-- The descriptor of page p. -/
def State.page (s : State) (p : PageId) : Page := s.pages.get p

/-- Transaction-table entry e. -/
def State.entry (s : State) (e : EntryId) : Entry := s.entries.get e

/-- Upstream port p. -/
def State.port (s : State) (p : PortId) : Port := s.ports.get p

/-- A slot record of a stream. -/
def Stream.slot (st : Stream) (x : SlotId) : Slot :=
  match x with
  | .a => st.slotA
  | .b => st.slotB

/-- The record of slot x of stream n. -/
def State.slot (s : State) (n : StreamId) (x : SlotId) : Slot := (s.stream n).slot x

/-- One stream record changed. -/
def State.modStream (s : State) (n : StreamId) (f : Stream → Stream) : State :=
  { s with streams := setRow s.streams n (f (s.stream n)) }

/-- One page descriptor changed. -/
def State.modPage (s : State) (p : PageId) (f : Page → Page) : State :=
  { s with pages := setRow s.pages p (f (s.page p)) }

/-- One entry changed. -/
def State.modEntry (s : State) (e : EntryId) (f : Entry → Entry) : State :=
  { s with entries := setRow s.entries e (f (s.entry e)) }

/-- One port changed. -/
def State.modPort (s : State) (p : PortId) (f : Port → Port) : State :=
  { s with ports := setRow s.ports p (f (s.port p)) }

/-- One slot of a stream record changed. -/
def Stream.modSlot (st : Stream) (x : SlotId) (f : Slot → Slot) : Stream :=
  match x with
  | .a => { st with slotA := f st.slotA }
  | .b => { st with slotB := f st.slotB }

/-- One slot record changed. -/
def State.modSlot (s : State) (n : StreamId) (x : SlotId) (f : Slot → Slot) : State :=
  s.modStream n fun st => st.modSlot x f

/-- A page is in the holders set of slot x (R33). -/
def Page.holds (p : Page) (x : SlotId) : Bool :=
  match x with
  | .a => p.holdA
  | .b => p.holdB

/-- A page with slot x put into its holders set, or taken out of it (R33). -/
def Page.setHolder (p : Page) (x : SlotId) (v : Bool) : Page :=
  match x with
  | .a => { p with holdA := v }
  | .b => { p with holdB := v }

/-- The kind mask's flag of a kind; EVENTS_LOST cannot be masked (R158, R159, R185). -/
def State.kindEnabled (s : State) (k : EventKind) : Bool :=
  match k with
  | .eventsLost => true
  | _ => s.kindMask.getLsbD (k.code - 1)

/-- Raising an event: discarded when masked, appended when the queue has room, counted as lost when it is full (R152). -/
def State.raise (s : State) (r : EventRecord) : State :=
  if s.kindEnabled r.kind then
    if s.events.length < 32 then
      { s with events := s.events ++ [r], attn := attnLevel (s.events.length + 1) s.watermark }
    else { s with lost := min (s.lost + 1) 65535 }
  else s

/-- No event record field but the kind and the stream (R93). -/
def streamRecord (k : EventKind) (n : StreamId) : EventRecord := { kind := k, stream := some n }

end Sys2Proof.Machine
end

