-- ==== Sys2Proof/Machine/Rotation.lean ====
section
/-! DEFINITION. The rotation controller's shared operations: release, retirement, the publication chain, sealing, the
lowering of a count, the end of a stop, and the search for a fill page (chapters 2 to 5). -/

namespace Sys2Proof.Machine

/-! ## Release and retirement -/

/-- Release of a page's descriptor: no holders, no frame number, FREE when both counts are 0 and RETIRING otherwise; the
damaged flag, owner, base and size are kept (R31). -/
def Page.released (pg : Page) : Page :=
  { pg with frame := none, holdA := false, holdB := false, stage := if pg.idle then .free else .retiring }

/-- The page leaves its stream's ready list and its descriptor is released (R31). -/
def release (p : PageId) (s : State) : State :=
  let s1 := match (s.page p).owner with
    | some n => s.modStream n fun st => { st with ready := st.ready.filter (· != p) }
    | none => s
  s1.modPage p Page.released

/-- The conditions of the retirement test of page p of stream n: PUBLISHED, unheld, not the newest ready page and, under
OLDEST, passed by every enabled slot (R76, R77). -/
def retires (s : State) (n : StreamId) (p : PageId) : Bool :=
  let st := s.stream n
  let pg := s.page p
  pg.stage == .published && pg.unheld && st.ready.getLast? != some p
    && (st.takePolicy == .newest || (st.slotA.passed pg.frame && st.slotB.passed pg.frame))

/-- The retirement test of one page (R76, R78). -/
def retireTest (n : StreamId) (s : State) (p : PageId) : State := if retires s n p then release p s else s

/-- The retirement test of every page on the stream's ready list (R77). -/
def retireAll (n : StreamId) (s : State) : State := (s.stream n).ready.foldl (retireTest n) s

/-! ## Publication -/

/-- The stream's pages in CLOSING and SEALED (R54), in ring order. -/
def pendingPages (s : State) (n : StreamId) : List PageId := (s.stream n).ring.filter fun p => (s.page p).isPending

/-- Of two pending pages, the one with the older frame number (R54). -/
def olderPage (s : State) (best : Option PageId) (p : PageId) : Option PageId :=
  match best with
  | none => some p
  | some q => if olderFrame (s.page p).frame (s.page q).frame then some p else some q

/-- The oldest pending page: the one with the oldest frame number (R54, log 12). -/
def oldestPending (s : State) (n : StreamId) : Option PageId := (pendingPages s n).foldl (olderPage s) none

/-- Publishing a SEALED page: PUBLISHED, at the tail of the ready list, counted; then the retirement test on every ready
page (R56). -/
def publish (n : StreamId) (p : PageId) (s : State) : State :=
  let s1 := s.modPage p fun pg => { pg with stage := .published }
  retireAll n (s1.modStream n fun st => { st with ready := st.ready ++ [p], published := st.published + 1 })

/-- Discarding a SEALED damaged page: counted, FRAME_DAMAGED, released (R57). -/
def discard (n : StreamId) (p : PageId) (s : State) : State :=
  let s1 := s.modStream n fun st => { st with damaged := st.damaged + 1 }
  release p (s1.raise
    { kind := .frameDamaged, stream := some n, page := some p, frame := (s.page p).frame })

/-- The publication chain, at most `fuel` pages of it (R55). -/
def chain : Nat → StreamId → State → State
  | 0, _, s => s
  | fuel + 1, n, s =>
    match oldestPending s n with
    | none => s
    | some p =>
      if (s.page p).stage == .sealed then
        chain fuel n (if (s.page p).damaged then discard n p s else publish n p s)
      else s

/-- The whole chain: each of its turns takes one page from the pending pages (R54, R55). -/
def runChain (n : StreamId) (s : State) : State := chain (pendingPages s n).length n s

/-- A page of stream n seals and the chain runs (R53). -/
def sealPage (n : StreamId) (p : PageId) (s : State) : State :=
  runChain n (s.modPage p fun pg => { pg with stage := .sealed })

/-! ## Counts -/

/-- The count of an access raised by 1 (R28). -/
def Page.raiseCount (k : Access) (pg : Page) : Page :=
  match k with
  | .write => { pg with writeCount := pg.writeCount + 1 }
  | .read => { pg with readCount := pg.readCount + 1 }

/-- The count of an access lowered by 1 (R29). -/
def Page.lowerCount (k : Access) (pg : Page) : Page :=
  match k with
  | .write => { pg with writeCount := pg.writeCount - 1 }
  | .read => { pg with readCount := pg.readCount - 1 }

/-- Every page of the stream's ring is FREE (R87, R93). -/
def ringFree (s : State) (n : StreamId) : Bool := (s.stream n).ring.all fun p => (s.page p).stage == .free

/-- A STOPPING stream with every ring page FREE becomes OFF and raises STREAM_STOPPED (R93). -/
def endStop (n : StreamId) (s : State) : State :=
  if (s.stream n).state == .stopping && ringFree s n then
    (s.modStream n fun st => { st with state := .off }).raise (streamRecord .streamStopped n)
  else s

/-- What the rotation controller does with a page whose count has just been lowered (R30, R32, R93). -/
def examinePage (k : Access) (p : PageId) (s : State) : State :=
  let pg := s.page p
  match pg.stage with
  | .closing =>
    if k == .write && pg.writeCount == 0 then
      match pg.owner with
      | some n => sealPage n p s
      | none => s
    else s
  | .retiring =>
    if pg.idle && pg.unheld then
      let s1 := s.modPage p fun q => { q with stage := .free }
      match pg.owner with
      | some n => endStop n s1
      | none => s1
    else s
  | .unassigned => s
  | .free => s
  | .filling => s
  | .sealed => s
  | .published => s

/-- The lowering of a page's count and what follows from it (R29, R30). -/
def lowerCount (k : Access) (p : PageId) (s : State) : State := examinePage k p (s.modPage p (Page.lowerCount k))

/-- The report of a failed aperture write: a FILLING or CLOSING page is marked damaged (R35). -/
def Page.markDamaged (pg : Page) : Page :=
  if pg.stage == .filling || pg.stage == .closing then { pg with damaged := true } else pg

/-! ## The next fill page -/

/-- The first FREE page in ring order (R47). -/
def firstFree (s : State) (n : StreamId) : Option PageId :=
  (s.stream n).ring.find? fun p => (s.page p).stage == .free

/-- The recycling candidate: the oldest ready page with no holder and read count 0 (R48). -/
def recycleCandidate (s : State) (n : StreamId) : Option PageId :=
  (s.stream n).ready.find? fun p =>
    (s.page p).stage == .published && (s.page p).unheld && (s.page p).readCount == 0

/-- The frame of a recycled page is dropped: off the ready list, counted, FRAME_DROPPED (R48). -/
def dropFrame (n : StreamId) (p : PageId) (s : State) : State :=
  (s.modStream n fun st => { st with ready := st.ready.filter (· != p), dropped := st.dropped + 1 }).raise
    { kind := .frameDropped, stream := some n, page := some p, frame := (s.page p).frame }

/-- A page becomes the stream's fill page: FILLING, undamaged, without a frame number (R47, R36). -/
def makeFill (n : StreamId) (p : PageId) (s : State) : State :=
  (s.modPage p fun pg => { pg with stage := .filling, damaged := false, frame := none }).modStream n
    fun st => { st with fillPage := some p }

/-- The search of a closing boundary for a new fill page: a FREE page, else under RECYCLE a candidate (R47, R48). -/
def seekFill (n : StreamId) (s : State) : Option (PageId × State) :=
  match firstFree s n with
  | some p => some (p, makeFill n p s)
  | none =>
    match (s.stream n).poolPolicy with
    | .sink => none
    | .recycle =>
      match recycleCandidate s n with
      | some p => some (p, makeFill n p (dropFrame n p s))
      | none => none

end Sys2Proof.Machine
end

