-- ==== Sys2Proof/Machine/Steering.lean ====
section
/-! DEFINITION. Request steering: apertures, the decision of section 6.2, translation and the cut into pieces
(chapter 6, R12 to R17). -/

namespace Sys2Proof.Machine

/-! ## Apertures (R5) -/

/-- A defined aperture: its stream, whose it is, its range. -/
structure Aperture where
  stream : StreamId
  role : Role
  range : Range
  deriving DecidableEq, Repr

/-- The aperture of a slot, when the slot is enabled (R5). -/
def slotApertures (n : StreamId) (x : SlotId) (sl : Slot) : List Aperture :=
  if sl.enabled then [⟨n, .slot x, sl.aperture⟩] else []

/-- The defined apertures of one stream: none while it is UNDEFINED (R5). -/
def streamApertures (n : StreamId) (st : Stream) : List Aperture :=
  if st.state == .undefined then []
  else ⟨n, .producer, st.aperture⟩ :: (slotApertures n .a st.slotA ++ slotApertures n .b st.slotB)

/-- The defined apertures of all eight streams (R5). -/
def definedApertures (s : State) : List Aperture :=
  (List.finRange 8).flatMap fun n => streamApertures n (s.stream n)

/-- The pages in any stage other than UNASSIGNED (R19). -/
def assignedPages (s : State) : List PageId := (List.finRange 64).filter fun p => (s.page p).assigned

/-- Of two, the one with the smaller key; the first on a tie. -/
def lowerOf {α : Type} (key : α → Nat) (best : Option α) (x : α) : Option α :=
  match best with
  | none => some x
  | some y => if key x < key y then some x else some y

/-- The member of a list with the smallest key. -/
def lowestBy {α : Type} (key : α → Nat) (l : List α) : Option α := l.foldl (lowerOf key) none

/-- The lowest byte address of the request range that lies in a range that it overlaps (R104, R105). -/
def firstShared (req r : Range) : Nat := max req.base r.base

/-! ## Translation (R12, R13) -/

/-- The page line of producer aperture line l (R12). -/
def pageLine (t : Transform) (lines l : Nat) (parity : Bool) : Nat :=
  match t with
  | .linear => l
  | .vflip => lines - 1 - l
  | .weave => 2 * l + (if parity then 1 else 0)

/-- The page address of a producer piece at offset o (R13). -/
def producerAddress (st : Stream) (page : Page) (o : Nat) : Nat :=
  page.base.toNat
    + pageLine st.transform st.lines.toNat (o / st.lineLength.toNat) st.parity * st.stride.toNat
    + o % st.lineLength.toNat

/-- The page address of a slot piece at offset o (R13). -/
def slotAddress (st : Stream) (sl : Slot) (page : Page) (o : Nat) : Nat :=
  page.base.toNat + (sl.cropLine.toNat + o / sl.lineLength.toNat) * st.stride.toNat + sl.cropByte.toNat
    + o % sl.lineLength.toNat

/-- The cut of an aperture request at the line boundary: offset and length in beats of each piece (R111). -/
def cutLine (lineLength o beats : Nat) : List (Nat × Nat) :=
  let c := o % lineLength
  if c + 16 * beats ≤ lineLength then [(o, beats)]
  else
    let k := (lineLength - c) / 16
    [(o, k), (o + (lineLength - c), beats - k)]

/-- The pieces of a cut, each with its own address and its share of the request's beats (R111). -/
def piecesOf (address : Nat → Nat) : List (Nat × Nat) → List WriteBeat → List Piece
  | [], _ => []
  | (o, k) :: rest, data =>
    { addr := BitVec.ofNat 40 (address o), length := k, data := data.take k, status := .queued, readData := [] }
      :: piecesOf address rest (data.drop k)

/-! ## The decision (section 6.2) -/

/-- What steering decides at acceptance (R101, R112): disposition, target, pieces, prepared response, and the
REQUEST_REFUSED record to raise. -/
structure Decision where
  disposition : Disposition
  target : Option Target
  pieces : List Piece
  prepared : Option Response
  report : Option EventRecord
  deriving DecidableEq, Repr

/-- The REQUEST_REFUSED record (R118). -/
def refusalRecord (p : PortId) (r : Request) (why : Reason) (n : Option StreamId) : EventRecord :=
  { kind := .requestRefused, port := some p, tag := some r.tag, addr := some r.addr, reason := some why, stream := n }

/-- A refusal that raises REQUEST_REFUSED: RANGE, ALIGN, ROLE or PRIVATE (R118). -/
def refuseReported (p : PortId) (r : Request) (why : Reason) (n : Option StreamId) : Decision :=
  { disposition := .refused why, target := none, pieces := [],
    prepared := some { status := .refused, reason := some why, data := [] },
    report := some (refusalRecord p r why n) }

/-- A refusal that raises nothing: IDLE or STOPPING (R106, R118). -/
def refuseSilent (why : Reason) : Decision :=
  { disposition := .refused why, target := none, pieces := [],
    prepared := some { status := .refused, reason := some why, data := [] }, report := none }

/-- PASS: one piece, unchanged (R110). -/
def passDecision (r : Request) : Decision :=
  { disposition := .pass, target := none,
    pieces := [{ addr := r.addr, length := reqBeats r, data := reqData r, status := .queued, readData := [] }],
    prepared := none, report := none }

/-- BLANK: the fill value in every beat (R14, R112). -/
def blankDecision (st : Stream) (r : Request) : Decision :=
  { disposition := .blank, target := none, pieces := [],
    prepared := some { status := .done, reason := none, data := List.replicate (reqBeats r) (fillBeat st.fill) },
    report := none }

/-- SUNK: DONE without data (R112). -/
def sunkDecision : Decision :=
  { disposition := .sunk, target := none, pieces := [],
    prepared := some { status := .done, reason := none, data := [] }, report := none }

/-- APERTURE: one or two translated pieces directed to a page (R111). -/
def apertureDecision (t : Target) (address : Nat → Nat) (lineLength o : Nat) (r : Request) : Decision :=
  { disposition := .aperture, target := some t,
    pieces := piecesOf address (cutLine lineLength o (reqBeats r)) (reqData r), prepared := none, report := none }

/-- A request wholly inside an aperture of a RUNNING stream, aligned and allowed: R108 and R109. -/
def steerAllowed (s : State) (r : Request) (ap : Aperture) : Decision :=
  let st := s.stream ap.stream
  let o := r.addr.toNat - ap.range.base
  match ap.role with
  | .producer =>
    match st.starved, st.fillPage with
    | false, some p =>
      apertureDecision ⟨ap.stream, .producer, p⟩ (producerAddress st (s.page p)) st.lineLength.toNat o r
    | _, _ =>
      match r.kind with
      | .write => sunkDecision
      | .read => blankDecision st r
  | .slot x =>
    match (st.slot x).held with
    | some p =>
      apertureDecision ⟨ap.stream, .slot x, p⟩ (slotAddress st (st.slot x) (s.page p)) (st.slot x).lineLength.toNat o r
    | none => blankDecision st r

/-- The role test: the producer's tag and either kind, or the slot's tag and READ (R107). -/
def roleAllows (st : Stream) (role : Role) (r : Request) : Bool :=
  match role with
  | .producer => r.tag == st.producerTag
  | .slot x => r.tag == (st.slot x).tag && r.kind == .read

/-- A request wholly inside one aperture: state, alignment and role in that order (R106, R107). -/
def steerInside (s : State) (p : PortId) (r : Request) (ap : Aperture) : Decision :=
  let st := s.stream ap.stream
  match st.state with
  | .undefined => refuseSilent .idle
  | .off => refuseSilent .idle
  | .stopping => refuseSilent .stopping
  | .running =>
    if r.addr.toNat % 16 != 0 then refuseReported p r .align (some ap.stream)
    else if roleAllows st ap.role r then steerAllowed s r ap
    else refuseReported p r .role (some ap.stream)

/-- The defined apertures that the request range overlaps. -/
def touchedApertures (s : State) (r : Request) : List Aperture :=
  (definedApertures s).filter fun ap => (reqRange r).overlaps ap.range

/-- The assigned pages that the request range overlaps. -/
def touchedPages (s : State) (r : Request) : List PageId :=
  (assignedPages s).filter fun p => (reqRange r).overlaps (s.page p).range

/-- Among touched apertures, the stream of the one that holds the lowest byte of the request (R105). -/
def firstApertureStream (r : Request) (l : List Aperture) : Option StreamId :=
  (lowestBy (fun ap => firstShared (reqRange r) ap.range) l).map (·.stream)

/-- Among touched pages, the owner of the one that holds the lowest byte of the request (R104). -/
def firstPageOwner (s : State) (r : Request) (l : List PageId) : Option StreamId :=
  (lowestBy (fun p => firstShared (reqRange r) (s.page p).range) l).bind fun p => (s.page p).owner

/-- The decision: RANGE past the top, PASS or PRIVATE outside every aperture, RANGE across an edge, else the aperture's
own checks (R103 to R109). -/
def steer (s : State) (p : PortId) (r : Request) : Decision :=
  if (reqRange r).pastTop then refuseReported p r .range none
  else if (touchedApertures s r).isEmpty then
    if (touchedPages s r).isEmpty then passDecision r
    else refuseReported p r .privatePage (firstPageOwner s r (touchedPages s r))
  else
    match (touchedApertures s r).find? fun ap => (reqRange r).inside ap.range with
    | some ap => steerInside s p r ap
    | none => refuseReported p r .range (firstApertureStream r (touchedApertures s r))

end Sys2Proof.Machine
end

