-- ==== Sys2Proof/Machine/Traffic.lean ====
section
/-! DEFINITION. The shared operations of the transaction table and the scheduler: presentation, the end of a quiesce, the
grant, acceptance, completion and delivery (chapters 7 and 8). -/

namespace Sys2Proof.Machine

/-! ## Presentation (R128, R129) -/

/-- The oldest deliverable entry of a list in acceptance order; `blocked` are the transaction IDs of older undelivered
entries (R128, R129). -/
def firstDeliverable (s : State) : List (BitVec 4) → List EntryId → Option EntryId
  | _, [] => none
  | blocked, e :: rest =>
    let en := s.entry e
    if en.state == .doneWaiting && !blocked.contains en.id then some e
    else if en.undelivered then firstDeliverable s (en.id :: blocked) rest
    else firstDeliverable s blocked rest

/-- A port that presents nothing presents its oldest deliverable response (R129). -/
def present (p : PortId) (s : State) : State :=
  match (s.port p).presented with
  | some _ => s
  | none => s.modPort p fun po => { po with presented := firstDeliverable s [] po.order }

/-- The datapath returns to NORMAL and raises DATAPATH_QUIET when no entry holds it in QUIESCING (R133). -/
def endQuiesce (s : State) : State :=
  if s.datapath == .quiescing && !(List.finRange 48).any (fun e => (s.entry e).holdsQuiesce) then
    { s with datapath := .normal }.raise { kind := .datapathQuiet }
  else s

/-- An entry becomes FREE and leaves its port's acceptance order (R129, R132). -/
def freeEntry (e : EntryId) (s : State) : State :=
  (s.modPort (s.entry e).port fun po => { po with order := po.order.filter (· != e) }).modEntry e fun _ => Entry.blank

/-! ## The grant (R140, R143, R144) -/

/-- The URG level of a port, as last seen (R143). -/
def State.urg (s : State) (p : PortId) : Bool := s.links.urg.get p

/-- Port p is a member of the urgent (true) or the normal (false) class: its line has that level and its queue holds a
piece (R143). -/
def memberOf (s : State) (urgent : Bool) (p : PortId) : Bool := s.urg p == urgent && !(s.port p).queue.isEmpty

/-- The class a grant is made in: the urgent one when it has a member (R143). -/
def grantClass (s : State) : Bool := (List.finRange 4).any (memberOf s true)

/-- The ports in rotation order from a pointer (R142, R144). -/
def rotationFrom (p : PortId) : List PortId := [p, p + 1, p + 2, p + 3]

/-- The search: the first member of the class in rotation order with credit above 0 (R144 step 1). -/
def searchGrant (s : State) : Option PortId :=
  (rotationFrom s.pointer).find? fun p => memberOf s (grantClass s) p && decide (0 < (s.port p).credit)

/-- The reload: every port's credit set to its weight (R144 step 2). -/
def reloadCredits (s : State) : State := { s with ports := mapAll s.ports fun _ po => { po with credit := po.weight } }

/-- The message of a piece (R139, R183). -/
def pieceMessage (e : Entry) (r : PieceRef) (pc : Piece) : PieceMessage :=
  { kind := e.kind.code, addr := pc.addr, len := lengthField pc.length, downTag := r.wireTag, tag := e.tag,
    beats := pc.data }

/-- A piece handed to the link: outstanding, its WRITE data given up, its entry ISSUED (R124, R140, R120). -/
def sendPiece (r : PieceRef) (s : State) : State :=
  match (s.entry r.entry).piece r.second with
  | some pc =>
    { s.modEntry r.entry (fun en =>
        (match en.state with
          | .queued => { en with state := .issued }
          | _ => en).modPiece r.second fun pc => { pc with status := .outstanding, data := [] }) with
      links := { s.links with sentPieces := s.links.sentPieces ++ [pieceMessage (s.entry r.entry) r pc] } }
  | none => s

/-- Spend, advance and issue for a granted port: its head piece leaves the queue, its credit falls by 1, the pointer moves
past it, one indication is used (R144 steps 3 to 5, R140). -/
def grantPort (p : PortId) (s : State) : State :=
  match (s.port p).queue with
  | [] => s
  | r :: rest =>
    let s1 := s.modPort p fun po => { po with queue := rest, credit := po.credit - 1 }
    sendPiece r { s1 with pointer := p + 1, indications := s1.indications - 1 }

/-- One grant, with its reload when the chosen class has no credit (R144). -/
def grant (s : State) : State :=
  match searchGrant s with
  | some p => grantPort p s
  | none =>
    match searchGrant (reloadCredits s) with
    | some p => grantPort p (reloadCredits s)
    | none => reloadCredits s

/-- Some issue queue holds a piece (R140). -/
def anyQueued (s : State) : Bool := (List.finRange 4).any fun p => !(s.port p).queue.isEmpty

/-- Grants while an indication is unused and a queue is non-empty (R140), at most `fuel`. -/
def grantLoop : Nat → State → State
  | 0, s => s
  | fuel + 1, s => if decide (0 < s.indications) && anyQueued s then grantLoop fuel (grant s) else s

/-- All the grants an event allows: each uses one indication (R140). -/
def runGrants (s : State) : State := grantLoop s.indications s

/-- The URG levels as they stand at this event (R143, log 4). -/
def seeUrg (urg : UrgLevels) (s : State) : State := { s with links := { s.links with urg := urg } }

/-- An indication is counted, unless the count stands at 96 (R140). -/
def countIndication (s : State) : State := { s with indications := min (s.indications + 1) 96 }

/-! ## Acceptance (R101, R122, R123) -/

/-- The lowest-numbered FREE entry (R123). -/
def firstFreeEntry (s : State) : Option EntryId := (List.finRange 48).find? fun e => (s.entry e).state == .free

/-- The port's own limits for a request of k pieces (R122). -/
def portRoom (s : State) (p : PortId) (k : Nat) : Bool :=
  decide ((s.port p).order.length < 12) && decide ((s.port p).queue.length + k ≤ 16)

/-- The entry of an accepted request (R123). -/
def newEntry (p : PortId) (r : Request) (d : Decision) : Entry :=
  { state := if d.pieces.isEmpty then .doneWaiting else .queued, port := p, id := r.id, tag := r.tag, kind := r.kind,
    length := reqBeats r, disposition := d.disposition, target := d.target, pieces := d.pieces, prepared := d.prepared }

/-- A refusal disposition (R119). -/
def Disposition.isRefusal (d : Disposition) : Bool :=
  match d with
  | .refused _ => true
  | _ => false

/-- The port's record of an acceptance: order, queue, counters (R101, R119, R123). -/
def Port.acceptEntry (po : Port) (e : EntryId) (d : Decision) : Port :=
  { po with order := po.order ++ [e], queue := po.queue ++ refsOf e d.pieces, accepted := po.accepted + 1,
            refused := if d.disposition.isRefusal then po.refused + 1 else po.refused }

/-- The count that an APERTURE request raises on its page (R113, R28). -/
def raiseTarget (k : Access) (t : Option Target) (s : State) : State :=
  match t with
  | some t => s.modPage t.page (Page.raiseCount k)
  | none => s

/-- A report, when there is one. -/
def raiseReport (r : Option EventRecord) (s : State) : State :=
  match r with
  | some r => s.raise r
  | none => s

/-- The acceptance of a steered request into entry e: entry, order, queue, count, report (R101, R123). -/
def acceptInto (e : EntryId) (p : PortId) (r : Request) (d : Decision) (s : State) : State :=
  let s1 := (s.modEntry e fun _ => newEntry p r d).modPort p fun po => po.acceptEntry e d
  raiseReport d.report (raiseTarget r.kind d.target s1)

/-- The port's head request is left waiting on the link, or no longer waits (R101, log 5). -/
def setWaiting (p : PortId) (w : Option Request) (s : State) : State :=
  { s with links := { s.links with waiting := setRow s.links.waiting p w } }

/-- The head request of port p: the one left waiting, else the one the link now presents (R101, log 5). -/
def headRequest (s : State) (p : PortId) (r : Request) : Request := (s.links.waiting.get p).getD r

/-- Where the head request can be accepted: the entry it takes, when the table and the port have room (R101, R122). -/
def acceptEntry (s : State) (p : PortId) (r : Request) : Option EntryId :=
  if portRoom s p (steer s p r).pieces.length then firstFreeEntry s else none

/-- The test of the head request: accepted, with the presentation and the grants that follow, or left waiting (R101,
R129, R140). -/
def acceptHead (p : PortId) (r : Request) (s : State) : State :=
  match acceptEntry s p r with
  | some e => runGrants (present p (acceptInto e p r (steer s p r) (setWaiting p none s)))
  | none => setWaiting p (some r) s

/-! ## The re-test of waiting requests (R101, R122, R138) -/

/-- The request that waits on the link of port p could be accepted now (R122). -/
def waitingFits (s : State) (p : PortId) : Bool :=
  match s.links.waiting.get p with
  | some r => (acceptEntry s p r).isSome
  | none => false

/-- The test of the request that waits on the link of port p. -/
def testPort (p : PortId) (s : State) : State :=
  match s.links.waiting.get p with
  | some r => acceptHead p r s
  | none => s

/-- The waiting requests that can be accepted are accepted, at most `fuel` of them, the lowest-numbered port's first each
time (log 23). -/
def testLoop : Nat → State → State
  | 0, s => s
  | fuel + 1, s =>
    match (List.finRange 4).find? (waitingFits s) with
    | some p => testLoop fuel (testPort p s)
    | none => s

/-- The ports test their waiting head requests again, as they do whenever an entry becomes FREE, a piece leaves an issue
queue or an input of steering changes (R122, R138). Each acceptance ends one of the four waits. -/
def testWaiting (s : State) : State := testLoop 4 s

/-! ## Completion (R125 to R127, R132) -/

/-- The outstanding piece that a completion names, if any (R125). -/
def outstandingPiece (s : State) (c : Completion) : Option (PieceRef × Piece) :=
  match refOfTag c.tag with
  | none => none
  | some r =>
    match (s.entry r.entry).piece r.second with
    | some pc => if pc.status == .outstanding then some (r, pc) else none
    | none => none

/-- The status of a completed piece and the beats it keeps: those of a READ whose entry still waits for its response
(R126, R132). -/
def Piece.complete (pc : Piece) (en : Entry) (c : Completion) : Piece :=
  { pc with
    status := match checkedStatus en.kind pc.length c with
      | .ok => .ok
      | .error => .error
    readData := if en.state == .issued then keptBeats en.kind pc.length c else [] }

/-- The slot of a target made through a slot aperture (R126). -/
def Target.slotId (t : Target) : Option SlotId :=
  match t.role with
  | .producer => none
  | .slot x => some x

/-- The DOWNSTREAM_FAULT record of a failing piece (R126). -/
def faultRecord (en : Entry) (pc : Piece) : EventRecord :=
  { kind := .downstreamFault, port := some en.port, tag := some en.tag, addr := some pc.addr,
    stream := en.target.map (·.stream), page := en.target.map (·.page), slot := en.target.bind (·.slotId) }

/-- The damage report of a failing WRITE piece of an APERTURE entry (R126 step 3, R35). -/
def reportDamage (en : Entry) (s : State) : State :=
  match en.kind, en.target with
  | .write, some t => s.modPage t.page Page.markDamaged
  | _, _ => s

/-- What a piece that completes ERROR does: counter, DOWNSTREAM_FAULT, damage (R126). -/
def failPiece (en : Entry) (pc : Piece) (s : State) : State :=
  reportDamage en ((s.modPort en.port fun po => { po with faults := po.faults + 1 }).raise (faultRecord en pc))

/-- The data of an entry whose pieces are all OK: a READ's beats in address order (R127). -/
def mergedData (en : Entry) : List BeatData :=
  match en.kind with
  | .read => en.pieces.flatMap (·.readData)
  | .write => []

/-- The response of an entry whose pieces have all completed (R127). -/
def finalResponse (en : Entry) : Response :=
  if en.pieces.all fun p => p.status == .ok then { status := .done, reason := none, data := mergedData en }
  else { status := .fault, reason := none, data := [] }

/-- An ISSUED entry whose last piece has completed becomes DONE-WAITING with its response, which takes the data (R127). -/
def Entry.finish (en : Entry) : Entry :=
  { en with state := .doneWaiting, prepared := some (finalResponse en),
            pieces := en.pieces.map fun p => { p with readData := [] } }

/-- The count of an entry's page lowered, when it has a page (R127, R29). -/
def lowerTarget (en : Entry) (s : State) : State :=
  match en.target with
  | some t => lowerCount en.kind t.page s
  | none => s

/-- The last piece of entry e has completed: ISSUED becomes DONE-WAITING, an ORPHANED entry becomes FREE, and the page
count falls (R127, R132). -/
def settleEntry (e : EntryId) (s : State) : State :=
  let en := s.entry e
  match en.state with
  | .issued => lowerTarget en (s.modEntry e Entry.finish)
  | .orphaned => lowerTarget en (freeEntry e s)
  | .doneWaiting => lowerTarget en s
  | .queued => s
  | .free => s

/-- A completion of an outstanding piece (R126, R127, R132, R133). -/
def completePiece (r : PieceRef) (pc : Piece) (c : Completion) (s : State) : State :=
  let en := s.entry r.entry
  let s1 := s.modEntry r.entry fun en => en.modPiece r.second fun pc => pc.complete en c
  let s2 := match checkedStatus en.kind pc.length c with
    | .ok => s1
    | .error => failPiece en pc s1
  let s3 := if (s2.entry r.entry).inFlight then s2 else settleEntry r.entry s2
  present en.port (endQuiesce s3)

/-- A completion: stray, or routed to its piece, with the re-test of waiting requests behind it (R125, R141, R122). -/
def complete (c : Completion) (s : State) : State :=
  match outstandingPiece s c with
  | some (r, pc) => testWaiting (completePiece r pc c s)
  | none => { s with stray := s.stray + 1 }

/-! ## Delivery (R129, R132) -/

/-- The delivered entry becomes ORPHANED with a piece outstanding, else FREE (R129, R132). -/
def retireEntry (e : EntryId) (s : State) : State :=
  if (s.entry e).anyOutstanding then
    s.modEntry e fun en => { en with state := .orphaned, prepared := none }
  else freeEntry e s

/-- The message of a response (R100, R183). -/
def responseMessage (p : PortId) (id : BitVec 4) (resp : Response) : ResponseMessage :=
  { port := p, id := id, status := resp.status.code, reason := reasonField resp.reason, beats := resp.data }

/-- The response goes out on the link (R100). -/
def sendResponse (p : PortId) (e : EntryId) (s : State) : State :=
  match (s.entry e).prepared with
  | some resp =>
    { s with links := { s.links with
        sentResponses := s.links.sentResponses ++ [responseMessage p (s.entry e).id resp] } }
  | none => s

/-- The link partner of port p takes the presented response, and waiting requests are tested again (R129, R132, R133,
R122). -/
def deliver (p : PortId) (s : State) : State :=
  match (s.port p).presented with
  | none => s
  | some e =>
    let s1 := retireEntry e (sendResponse p e s)
    testWaiting (present p (endQuiesce (s1.modPort p fun po => { po with presented := none })))

end Sys2Proof.Machine
end

