-- ==== Sys2Proof/Machine/Links.lean ====
section
/-! DEFINITION. ACCEPTANCE, INDICATION, DOWNSTREAM_COMPLETION and DELIVERY (chapters 6 to 8). -/

namespace Sys2Proof.Machine

/-- ACCEPTANCE: the port tests its head request, and waiting requests are tested again behind it (R101, R122). While RESETN
is low no request is accepted and the URG lines are not read, and the request waits on the link (R102, R181, R182). -/
def execAcceptance (p : PortId) (r : Request) (urg : UrgLevels) (s : State) : Host.Outcome State Fault Refusal :=
  .next (if s.resetn then testWaiting (acceptHead p (headRequest s p r) (seeUrg urg s))
    else setWaiting p (some (headRequest s p r)) s)

/-- INDICATION: counted, then the grant it allows (R140) and the re-test of waiting requests (R138). While RESETN is low it
is not recorded (R182). -/
def execIndication (urg : UrgLevels) (s : State) : Host.Outcome State Fault Refusal :=
  .next (if s.resetn then testWaiting (runGrants (countIndication (seeUrg urg s))) else s)

/-- DOWNSTREAM_COMPLETION (R125, R141). While RESETN is low it is discarded uncounted (R135, R182). -/
def execDownstreamCompletion (c : Completion) (s : State) : Host.Outcome State Fault Refusal :=
  .next (if s.resetn then complete c s else s)

/-- DELIVERY (R129). While RESETN is low no response is presented (R182). -/
def execDelivery (p : PortId) (s : State) : Host.Outcome State Fault Refusal :=
  .next (if s.resetn then deliver p s else s)

end Sys2Proof.Machine
end

