-- ==== Sys2Proof/Machine/Layouts.lean ====
section
/-! DEFINITION. The byte layouts of responses and event records (R187, R188, R176, R177, R178). -/

namespace Sys2Proof.Machine

/-- A small number as one byte. -/
def numByte (k : Nat) : Byte := BitVec.ofNat 8 k

/-- A one-byte page, stream or slot field, 0xFF when absent (R185). -/
def optByte {n : Nat} (o : Option (Fin n)) : Byte :=
  match o with
  | some i => numByte i.val
  | none => 0xFF

/-- A frame number with its presence byte, zero when absent (R185). -/
def frameBytes (o : Option Word32) : List Byte :=
  match o with
  | some f => 1 :: word32Bytes f
  | none => [0, 0, 0, 0, 0]

/-- A list of pages as a count and eight positions, unused ones 0xFF (R176, R187). -/
def pageListBytes (l : List PageId) : List Byte :=
  numByte l.length :: ((l.map fun p : PageId => numByte p.val) ++ List.replicate 8 0xFF).take 8

/-! ## The event record (R188) -/

/-- The 20 bytes of an event record: one-byte fields 0xFF when absent, longer ones zero (R188). -/
def recordBytes (r : EventRecord) : List Byte :=
  [numByte r.kind.code, optByte r.stream,
   match r.slot with
   | some x => slotByte x
   | none => 0xFF,
   optByte r.page, optByte r.port,
   match r.tag with
   | some t => t.setWidth 8
   | none => 0xFF,
   match r.reason with
   | some why => why.byte
   | none => 0xFF]
  ++ word32Bytes (r.frame.getD 0) ++ addrBytes (r.addr.getD 0) ++ word32Bytes (r.count.getD 0)

/-! ## Result data, from byte 1 of the response (R187) -/

/-- NOP: part code, revision, datapath state, event count, ATTN level (R173). -/
def nopData (s : State) : List Byte :=
  word16Bytes Config.partCode ++ [Config.revision, s.datapath.byte, numByte s.events.length, flagByte s.attn]

/-- POP-EVENTS: the number of records and the records (R175). -/
def popData (records : List EventRecord) : List Byte := numByte records.length :: records.flatMap recordBytes

/-- A page's position in a ring, counted from 0 at the head, or its absence (R38). -/
def ringPosition (s : State) (p : PageId) : Option Nat :=
  match (s.page p).owner with
  | some n => (s.stream n).ring.findIdx? (· == p)
  | none => none

/-- READ-PAGE (R177). -/
def pageData (s : State) (p : PageId) : List Byte :=
  let pg := s.page p
  [numByte p.val, pg.stage.byte, optByte pg.owner] ++ addrBytes pg.base ++ word32Bytes pg.size ++ frameBytes pg.frame
    ++ [numByte pg.writeCount, numByte pg.readCount, flagByte pg.holdA, flagByte pg.holdB, flagByte pg.damaged,
        match ringPosition s p with
        | some k => numByte k
        | none => 0xFF]

/-- The 25-byte block of a slot in READ-STREAM (R176, R187). -/
def slotData (sl : Slot) : List Byte :=
  [sl.conditionByte, sl.tag.setWidth 8] ++ addrBytes sl.base ++ word16Bytes sl.lines ++ word16Bytes sl.lineLength
    ++ word16Bytes sl.cropLine ++ word16Bytes sl.cropByte ++ [sl.staleThreshold, flagByte sl.freeze, optByte sl.held]
    ++ frameBytes sl.lastTaken ++ [numByte sl.repeatsInRow, flagByte sl.staleRaised]

/-- READ-STREAM (R176). -/
def streamData (n : StreamId) (st : Stream) : List Byte :=
  [numByte n.val, st.state.byte] ++ addrBytes st.base ++ word16Bytes st.lines ++ word16Bytes st.lineLength
    ++ word32Bytes st.stride ++ [st.transform.byte, st.producerTag.setWidth 8, st.takePolicy.byte, st.poolPolicy.byte]
    ++ word32Bytes st.fill ++ [flagByte st.freeze] ++ pageListBytes st.ring ++ pageListBytes st.ready
    ++ [optByte st.fillPage, flagByte st.starved, flagByte st.parity] ++ word32Bytes st.nextFrame
    ++ slotData st.slotA ++ slotData st.slotB

/-- The counters of a group in the order of R178. -/
def groupCounters (s : State) (g : CounterGroup) : List Word32 :=
  match g with
  | .stream n =>
    let st := s.stream n
    [st.closed, st.heldFrames, st.sunk, st.published, st.damaged, st.dropped]
  | .slot n x => [(s.slot n x).takes, (s.slot n x).repeats, (s.slot n x).frozenTakes]
  | .port p => [(s.port p).accepted, (s.port p).refused, (s.port p).faults]
  | .device => [s.stray]

/-- READ-COUNTERS: the group kind and number as given, then the counters (R178). -/
def countersData (kind number : Byte) (s : State) (g : CounterGroup) : List Byte :=
  [kind, number] ++ (groupCounters s g).flatMap word32Bytes

end Sys2Proof.Machine
end

