-- ==== Sys2Proof/Machine/Management.lean ====
section
/-! DEFINITION. The end of a management frame and the commands it carries, but for DATAPATH-RESET (chapter 10, with the
command rules of chapters 1, 2, 5, 8 and 9). -/

namespace Sys2Proof.Machine

/-! ## The management frame (R164 to R169, R172) -/

/-- What a command answers: its result code, its result data and the state it leaves (R168). -/
structure Answer where
  code : ResultCode
  data : List Byte
  state : State
  deriving DecidableEq, Repr

/-- OK without result data. -/
def Answer.done (s : State) : Answer := { code := .ok, data := [], state := s }

/-- OK with result data. -/
def Answer.report (data : List Byte) (s : State) : Answer := { code := .ok, data := data, state := s }

/-- Any result but OK: the code alone, and nothing changed (R168, R172). -/
def Answer.refuse (code : ResultCode) (s : State) : Answer := { code := code, data := [], state := s }

/-- The response of an answer: the result code byte and the result data (R168, R187). -/
def Answer.bytes (a : Answer) : List Byte := a.code.byte :: a.data

/-- The port takes frames while RESETN is high and chip select has risen since the pin reset (R165, R182). -/
def mgmtReady (s : State) : Bool := s.resetn && !s.awaitRise

/-- Outbound bytes of a frame of m whole bytes: the response buffer as the frame found it, then zeros (R169). -/
def outbound (response : List Byte) (m : Nat) : List Byte := (List.range m).map fun i => response.getD i 0

/-- The bits driven on MDO in a frame of m whole bytes: the outbound bytes, most significant bit first (R164, R169). -/
def outboundBits (response : List Byte) (m : Nat) : List Bool := (outbound response m).flatMap byteBits

/-- The bits driven on MDO in a frame of no whole byte: the first bit of the response, driven when chip select falls
(R164; what follows it is log 7). -/
def firstOutboundBit (response : List Byte) : List Bool := (outboundBits response 1).take 1

/-- What the part has driven on MDO in one frame, in the order driven (log 6). -/
def recordMdo (bits : List Bool) (s : State) : State :=
  { s with links := { s.links with mdoBits := s.links.mdoBits ++ [bits] } }

/-- The bytes of a frame come in while those of the response buffer go out; at its end the partial byte is discarded and
the part stops driving MDO (R164, R169). -/
def shiftFrame (bytes : List Byte) (s : State) : State :=
  recordMdo (outboundBits s.response bytes.length)
    { s with rx := { bytes := bytes, bits := [], outPosition := bytes.length }, mdo := .notDriven }

/-- A command acts at the end of its frame and its response overwrites the buffer (R167, R168). -/
def answerFrame (bytes : List Byte) (command : State → Answer) (s : State) : State :=
  { (command (shiftFrame bytes s)).state with response := (command (shiftFrame bytes s)).bytes }

/-- The rise of chip select at the end of a frame of at least one whole byte, for a command that changes no input of
steering (R165). A frame the port does not take changes nothing. -/
def frameEnd (bytes : List Byte) (command : State → Answer) (s : State) : State :=
  if mgmtReady s then answerFrame bytes command s else s

/-- The rise of chip select at the end of a frame whose command, when it is taken, changes what steering reads or what the
table holds: waiting requests are tested again behind it (R165, R117, R122). -/
def steeringFrameEnd (bytes : List Byte) (command : State → Answer) (s : State) : State :=
  if mgmtReady s then
    match (command (shiftFrame bytes s)).code with
    | .ok => testWaiting (answerFrame bytes command s)
    | _ => answerFrame bytes command s
  else s

/-! ## Identity and frames without a command -/

/-- NOP (R173). -/
def cmdNop (s : State) : Answer := Answer.report (nopData s) s

/-- NOP. -/
def execNop (f : FrameTail) (s : State) : Host.Outcome State Fault Refusal :=
  .next (frameEnd ([0x00] ++ f.extra) cmdNop s)

/-- UNKNOWN_COMMAND: the result UNKNOWN alone (R166). -/
def execUnknownCommand (code : Byte) (f : FrameTail) (s : State) : Host.Outcome State Fault Refusal :=
  .next (frameEnd ([code] ++ f.extra) (Answer.refuse .unknown) s)

/-- SHORT_FRAME: the result SHORT alone (R166). -/
def execShortFrame (code : Byte) (f : FrameTail) (s : State) : Host.Outcome State Fault Refusal :=
  .next (frameEnd ([code] ++ f.extra) (Answer.refuse .short) s)

/-- DISCARDED_FRAME: its partial byte is discarded and nothing else changes; the first bit of the response, which is driven
from chip select's fall on, has gone out (R164, R165). -/
def execDiscardedFrame (_bits : List Bool) (s : State) : Host.Outcome State Fault Refusal :=
  .next (if mgmtReady s then
    recordMdo (firstOutboundBit s.response) { s with rx := Receiver.empty, mdo := .notDriven } else s)

/-! ## Ranges (R6, R8, R9, R22, R23) -/

/-- A 4 KiB aligned address. -/
def pageAligned (a : Addr) : Bool := a.toNat % 4096 == 0

/-- A legal line length: 256 to 16,384, a multiple of 16 (R1, R3). -/
def lineLengthOk (w : Word16) : Bool :=
  decide (256 ≤ w.toNat) && decide (w.toNat ≤ 16384) && w.toNat % 16 == 0

/-- A legal number of lines: 1 to 4,096 (R1, R3). -/
def linesOk (w : Word16) : Bool := decide (1 ≤ w.toNat) && decide (w.toNat ≤ 4096)

/-- A legal page stride: 256 to 65,536, a multiple of 16 (R1). -/
def strideOk (w : Word32) : Bool := decide (256 ≤ w.toNat) && decide (w.toNat ≤ 65536) && w.toNat % 16 == 0

/-- A range meets the aperture of the given stream and role, when that one is not the one being replaced (R8). -/
def meetsAperture (r : Range) (n : StreamId) (role : Role) (ap : Aperture) : Bool :=
  !(ap.stream == n && ap.role == role) && r.overlaps ap.range

/-- A range meets an assigned page (R8, R23). -/
def meetsPage (s : State) (r : Range) : Bool := (assignedPages s).any fun p => r.overlaps (s.page p).range

/-- The overlap test of a new aperture that replaces the one of stream n and role (R8). -/
def apertureOverlaps (s : State) (r : Range) (n : StreamId) (role : Role) : Bool :=
  (definedApertures s).any (meetsAperture r n role) || meetsPage s r

/-- The overlap test of a new page range (R23). -/
def pageOverlaps (s : State) (r : Range) : Bool :=
  (definedApertures s).any (fun ap => r.overlaps ap.range) || meetsPage s r

/-! ## Streams and slots -/

/-- SET-STREAM's arguments, checked and decoded. -/
structure StreamSetting where
  stream : StreamId
  transform : Transform
  takePolicy : TakePolicy
  poolPolicy : PoolPolicy
  deriving DecidableEq, Repr

/-- The range of the producer aperture that SET-STREAM's arguments define (R5). -/
def setStreamRange (a : SetStreamArgs) : Range := ⟨a.base.toNat, a.lines.toNat * a.lineLength.toNat⟩

/-- SET-STREAM's numeric arguments are in range (R6). -/
def setStreamNumbersOk (a : SetStreamArgs) : Bool :=
  pageAligned a.base && linesOk a.lines && lineLengthOk a.lineLength && strideOk a.stride
    && decide (a.producerTag.toNat ≤ 63) && !(setStreamRange a).pastTop

/-- SET-STREAM's argument checks: none is BAD_ARG (R6). -/
def checkSetStream (a : SetStreamArgs) : Option StreamSetting :=
  match streamOf a.stream, transformOf a.transform, takePolicyOf a.takePolicy, poolPolicyOf a.poolPolicy with
  | some n, some t, some tp, some pp => if setStreamNumbersOk a then some ⟨n, t, tp, pp⟩ else none
  | _, _, _, _ => none

/-- The stream record that a taken SET-STREAM writes (R7). -/
def Stream.configured (st : Stream) (a : SetStreamArgs) (g : StreamSetting) : Stream :=
  { st with
    state := .off, base := a.base, lines := a.lines, lineLength := a.lineLength, stride := a.stride,
    transform := g.transform, producerTag := a.producerTag.setWidth 6, takePolicy := g.takePolicy,
    poolPolicy := g.poolPolicy, fill := a.fill }

/-- A stream in RUNNING or STOPPING. -/
def Stream.active (st : Stream) : Bool := st.state == .running || st.state == .stopping

/-- SET-STREAM (R6, R7, R8): BAD_ARG, BAD_STATE, OVERLAP, OK. -/
def cmdSetStream (a : SetStreamArgs) (s : State) : Answer :=
  match checkSetStream a with
  | none => Answer.refuse .badArg s
  | some g =>
    if (s.stream g.stream).active then Answer.refuse .badState s
    else if apertureOverlaps s (setStreamRange a) g.stream .producer then Answer.refuse .overlap s
    else Answer.done (s.modStream g.stream fun st => st.configured a g)

/-- SET_STREAM. -/
def execSetStream (a : SetStreamArgs) (f : FrameTail) (s : State) : Host.Outcome State Fault Refusal :=
  .next (steeringFrameEnd ([0x10] ++ setStreamBytes a ++ f.extra) (cmdSetStream a) s)

/-- A slot returned to its pin-reset condition but for its counters (R4). -/
def Slot.cleared (sl : Slot) : Slot :=
  { Slot.blank with takes := sl.takes, repeats := sl.repeats, frozenTakes := sl.frozenTakes }

/-- The record of a stream that CLEAR-STREAM has taken: the values of R2 and R4, counters kept (R2, R4, R86). -/
def Stream.cleared (st : Stream) : Stream :=
  { Stream.blank with
    closed := st.closed, heldFrames := st.heldFrames, sunk := st.sunk, published := st.published,
    damaged := st.damaged, dropped := st.dropped, slotA := st.slotA.cleared, slotB := st.slotB.cleared }

/-- CLEAR-STREAM (R86). -/
def cmdClearStream (stream : Byte) (s : State) : Answer :=
  match streamOf stream with
  | none => Answer.refuse .badArg s
  | some n =>
    if (s.stream n).state == .off && (s.stream n).ring.isEmpty then Answer.done (s.modStream n Stream.cleared)
    else Answer.refuse .badState s

/-- CLEAR_STREAM. -/
def execClearStream (stream : Byte) (f : FrameTail) (s : State) : Host.Outcome State Fault Refusal :=
  .next (steeringFrameEnd ([0x11, stream] ++ f.extra) (cmdClearStream stream) s)

/-- The range of the slot aperture that SET-CONSUMER's arguments define (R5). -/
def setConsumerRange (a : SetConsumerArgs) : Range := ⟨a.base.toNat, a.lines.toNat * a.lineLength.toNat⟩

/-- SET-CONSUMER's arguments behind the enable byte are in range (R9). -/
def setConsumerNumbersOk (a : SetConsumerArgs) : Bool :=
  decide (a.tag.toNat ≤ 63) && pageAligned a.base && linesOk a.lines && lineLengthOk a.lineLength
    && decide (a.cropLine.toNat ≤ 8191) && decide (a.cropByte.toNat ≤ 16368) && a.cropByte.toNat % 16 == 0
    && !(setConsumerRange a).pastTop

/-- SET-CONSUMER's argument checks: stream, slot and enable, or none for BAD_ARG; with enable off the rest is not checked
(R9, R10). -/
def checkSetConsumer (a : SetConsumerArgs) : Option (StreamId × SlotId × Bool) :=
  match streamOf a.stream, slotOf a.slot, flagOf a.enable with
  | some n, some x, some on => if !on || setConsumerNumbersOk a then some (n, x, on) else none
  | _, _, _ => none

/-- A slot enabled and configured (R10). -/
def Slot.configured (sl : Slot) (a : SetConsumerArgs) : Slot :=
  { sl with
    enabled := true, tag := a.tag.setWidth 6, base := a.base, lines := a.lines, lineLength := a.lineLength,
    cropLine := a.cropLine, cropByte := a.cropByte, staleThreshold := a.staleThreshold }

/-- A slot disabled, its other configuration fields zero (R10). -/
def Slot.disabled (sl : Slot) : Slot :=
  { sl with
    enabled := false, tag := 0, base := 0, lines := 0, lineLength := 0, cropLine := 0, cropByte := 0,
    staleThreshold := 0 }

/-- SET-CONSUMER (R8, R9, R10): BAD_ARG, BAD_STATE, OVERLAP with enable on, OK. -/
def cmdSetConsumer (a : SetConsumerArgs) (s : State) : Answer :=
  match checkSetConsumer a with
  | none => Answer.refuse .badArg s
  | some (n, x, on) =>
    if (s.stream n).state != .off then Answer.refuse .badState s
    else if !on then Answer.done (s.modSlot n x Slot.disabled)
    else if apertureOverlaps s (setConsumerRange a) n (.slot x) then Answer.refuse .overlap s
    else Answer.done (s.modSlot n x fun sl => sl.configured a)

/-- SET_CONSUMER. -/
def execSetConsumer (a : SetConsumerArgs) (f : FrameTail) (s : State) : Host.Outcome State Fault Refusal :=
  .next (steeringFrameEnd ([0x12] ++ setConsumerBytes a ++ f.extra) (cmdSetConsumer a) s)

/-- FREEZE (R11). -/
def cmdFreeze (stream target on : Byte) (s : State) : Answer :=
  match streamOf stream, freezeTargetOf target, flagOf on with
  | some n, some t, some v =>
    if (s.stream n).state == .undefined then Answer.refuse .badState s
    else match t with
      | .producer => Answer.done (s.modStream n fun st => { st with freeze := v })
      | .slot x => Answer.done (s.modSlot n x fun sl => { sl with freeze := v })
  | _, _, _ => Answer.refuse .badArg s

/-- FREEZE. -/
def execFreeze (stream target on : Byte) (f : FrameTail) (s : State) : Host.Outcome State Fault Refusal :=
  .next (frameEnd ([0x32, stream, target, on] ++ f.extra) (cmdFreeze stream target on) s)

/-! ## Pages -/

/-- ASSIGN-PAGE's base and size are in range (R22). -/
def assignNumbersOk (a : AssignPageArgs) : Bool :=
  pageAligned a.base && decide (1 ≤ a.size.toNat) && decide (a.size.toNat ≤ 268435456) && a.size.toNat % 4096 == 0
    && !(Range.mk a.base.toNat a.size.toNat).pastTop

/-- ASSIGN-PAGE's argument checks: page and stream, or none for BAD_ARG (R22). -/
def checkAssignPage (a : AssignPageArgs) : Option (PageId × StreamId) :=
  match pageOf a.page, streamOf a.stream with
  | some p, some n => if assignNumbersOk a then some (p, n) else none
  | _, _ => none

/-- The descriptor of a page just assigned (R24). -/
def Page.assignedTo (n : StreamId) (a : AssignPageArgs) : Page :=
  { Page.blank with stage := .free, owner := some n, base := a.base, size := a.size }

/-- ASSIGN-PAGE (R22, R23, R24): BAD_ARG, BAD_STATE, OVERLAP, OK. -/
def cmdAssignPage (a : AssignPageArgs) (s : State) : Answer :=
  match checkAssignPage a with
  | none => Answer.refuse .badArg s
  | some (p, n) =>
    if (s.page p).assigned || (s.stream n).state != .off || decide (8 ≤ (s.stream n).ring.length) then
      Answer.refuse .badState s
    else if pageOverlaps s ⟨a.base.toNat, a.size.toNat⟩ then Answer.refuse .overlap s
    else Answer.done ((s.modPage p fun _ => Page.assignedTo n a).modStream n fun st => { st with ring := st.ring ++ [p] })

/-- ASSIGN_PAGE. -/
def execAssignPage (a : AssignPageArgs) (f : FrameTail) (s : State) : Host.Outcome State Fault Refusal :=
  .next (steeringFrameEnd ([0x20] ++ assignPageBytes a ++ f.extra) (cmdAssignPage a) s)

/-- UNASSIGN-PAGE of a page of stream n: BAD_STATE while the stream is RUNNING or STOPPING, BUSY while the page is not
FREE, else taken (R25). -/
def unassign (p : PageId) (n : StreamId) (s : State) : Answer :=
  if (s.stream n).active then Answer.refuse .badState s
  else if (s.page p).stage != .free then Answer.refuse .busy s
  else Answer.done ((s.modPage p fun _ => Page.blank).modStream n fun st => { st with ring := st.ring.filter (· != p) })

/-- UNASSIGN-PAGE (R25). -/
def cmdUnassignPage (page : Byte) (s : State) : Answer :=
  match pageOf page with
  | none => Answer.refuse .badArg s
  | some p =>
    if (s.page p).assigned then
      match (s.page p).owner with
      | some n => unassign p n s
      | none => Answer.refuse .badState s
    else Answer.refuse .badState s

/-- UNASSIGN_PAGE. -/
def execUnassignPage (page : Byte) (f : FrameTail) (s : State) : Host.Outcome State Fault Refusal :=
  .next (steeringFrameEnd ([0x21, page] ++ f.extra) (cmdUnassignPage page) s)

/-! ## Start and stop -/

/-- Conditions 4 and 5 of R15 for a slot: a DISABLED slot is not tested. -/
def slotFits (st : Stream) (sl : Slot) : Bool :=
  !sl.enabled || (decide (sl.cropLine.toNat + sl.lines.toNat ≤ st.pageLines)
    && decide (sl.cropByte.toNat + sl.lineLength.toNat ≤ st.lineLength.toNat))

/-- The five conditions of R15 hold. -/
def geometryOk (s : State) (n : StreamId) : Bool :=
  let st := s.stream n
  decide (2 ≤ st.ring.length) && decide (st.lineLength.toNat ≤ st.stride.toNat)
    && (st.ring.all fun p => decide (st.stride.toNat * st.pageLines ≤ (s.page p).size.toNat))
    && slotFits st st.slotA && slotFits st st.slotB

/-- A slot at the start of a run (R88). -/
def Slot.restarted (sl : Slot) : Slot :=
  { sl with held := none, lastTaken := none, repeatsInRow := 0, staleRaised := false }

/-- The stream record at the start of a run whose first page is p (R88). -/
def Stream.started (st : Stream) (p : PageId) : Stream :=
  { st with
    state := .running, nextFrame := 0, parity := false, starved := false, starvedFrames := 0, ready := [],
    fillPage := some p, slotA := st.slotA.restarted, slotB := st.slotB.restarted }

/-- The first fill page (R88). -/
def Page.firstFill (pg : Page) : Page :=
  { pg with stage := .filling, frame := none, writeCount := 0, readCount := 0, holdA := false, holdB := false,
            damaged := false }

/-- The pages of the ring at the start of a run: damaged flags off, the first one FILLING (R88, R36). -/
def startPages (s : State) (ring : List PageId) (first : PageId) : Vector Page 64 :=
  mapAll s.pages fun p pg =>
    if p == first then pg.firstFill else if ring.contains p then { pg with damaged := false } else pg

/-- The start of stream n on the first page of its ring (R88). -/
def startOn (n : StreamId) (p : PageId) (s : State) : State :=
  { s with pages := startPages s (s.stream n).ring p }.modStream n fun st => st.started p

/-- START-STREAM (R87, R88): BAD_ARG, BAD_STATE, BUSY, GEOMETRY, OK. -/
def cmdStartStream (stream : Byte) (s : State) : Answer :=
  match streamOf stream with
  | none => Answer.refuse .badArg s
  | some n =>
    if (s.stream n).state != .off then Answer.refuse .badState s
    else if !ringFree s n then Answer.refuse .busy s
    else if !geometryOk s n then Answer.refuse .geometry s
    else match (s.stream n).ring with
      | [] => Answer.refuse .geometry s
      | p :: _ => Answer.done (startOn n p s)

/-- START_STREAM. -/
def execStartStream (stream : Byte) (f : FrameTail) (s : State) : Host.Outcome State Fault Refusal :=
  .next (steeringFrameEnd ([0x30, stream] ++ f.extra) (cmdStartStream stream) s)

/-- The stream record at a stop: the run fields that R91 ends, slots BLANK. -/
def Stream.stopped (st : Stream) : Stream :=
  { st with
    state := .stopping, fillPage := none, starved := false, starvedFrames := 0, ready := [],
    slotA := { st.slotA with held := none }, slotB := { st.slotB with held := none } }

/-- The pages at a stop: every page of the ring in FILLING, CLOSING, SEALED or PUBLISHED is released (R91, R31). -/
def stopPages (s : State) (ring : List PageId) : Vector Page 64 :=
  mapAll s.pages fun p pg => if ring.contains p && pg.inCycle then pg.released else pg

/-- The stop of a RUNNING stream, and its end where every ring page is FREE (R91, R93). -/
def stopRunning (n : StreamId) (s : State) : State :=
  endStop n ({ s with pages := stopPages s (s.stream n).ring }.modStream n Stream.stopped)

/-- STOP-STREAM (R90, R91). -/
def cmdStopStream (stream : Byte) (s : State) : Answer :=
  match streamOf stream with
  | none => Answer.refuse .badArg s
  | some n =>
    match (s.stream n).state with
    | .undefined => Answer.refuse .badState s
    | .off => Answer.done s
    | .stopping => Answer.done s
    | .running => Answer.done (stopRunning n s)

/-- STOP_STREAM. -/
def execStopStream (stream : Byte) (f : FrameTail) (s : State) : Host.Outcome State Fault Refusal :=
  .next (steeringFrameEnd ([0x31, stream] ++ f.extra) (cmdStopStream stream) s)

/-! ## Arbiter and events -/

/-- A legal weight: 1 to 8 (R142, R146). -/
def weightOk (w : Byte) : Bool := decide (1 ≤ w.toNat) && decide (w.toNat ≤ 8)

/-- A port with its weight set and its credit reloaded (R146). -/
def Port.weighted (po : Port) (w : Byte) : Port := { po with weight := w.toNat, credit := w.toNat }

/-- The four weights in port order. -/
def weightOf (w0 w1 w2 w3 : Byte) (p : PortId) : Byte :=
  match p with
  | 0 => w0
  | 1 => w1
  | 2 => w2
  | 3 => w3

/-- SET-ARBITER (R146). -/
def cmdSetArbiter (w0 w1 w2 w3 : Byte) (s : State) : Answer :=
  if weightOk w0 && weightOk w1 && weightOk w2 && weightOk w3 then
    Answer.done { s with ports := mapAll s.ports fun p po => po.weighted (weightOf w0 w1 w2 w3 p) }
  else Answer.refuse .badArg s

/-- SET_ARBITER. -/
def execSetArbiter (w0 w1 w2 w3 : Byte) (f : FrameTail) (s : State) : Host.Outcome State Fault Refusal :=
  .next (frameEnd ([0x40, w0, w1, w2, w3] ++ f.extra) (cmdSetArbiter w0 w1 w2 w3) s)

/-- SET-EVENTS: watermark 1 to 32, mask bits 0 to 8 kept, ATTN re-evaluated (R158, R185). -/
def cmdSetEvents (watermark : Byte) (mask : Word16) (s : State) : Answer :=
  if decide (1 ≤ watermark.toNat) && decide (watermark.toNat ≤ 32) then
    Answer.done { s with watermark := watermark.toNat, kindMask := mask.setWidth 9,
                         attn := attnLevel s.events.length watermark.toNat }
  else Answer.refuse .badArg s

/-- SET_EVENTS. -/
def execSetEvents (watermark : Byte) (mask : Word16) (f : FrameTail) (s : State) : Host.Outcome State Fault Refusal :=
  .next (frameEnd ([0x41, watermark] ++ word16Bytes mask ++ f.extra) (cmdSetEvents watermark mask) s)

/-- The EVENTS_LOST record of a POP-EVENTS that opens room while the lost count is above 0 (R156). -/
def lostRecords (removed lost : Nat) : List EventRecord :=
  if decide (0 < removed) && decide (0 < lost) then [{ kind := .eventsLost, count := some (BitVec.ofNat 32 lost) }] else []

/-- The queue after the k oldest records are removed: EVENTS_LOST appended where R156 calls for it, ATTN re-evaluated
(R155, R156, R157). -/
def removeRecords (k : Nat) (s : State) : State :=
  let added := lostRecords (min k s.events.length) s.lost
  let rest := s.events.drop k ++ added
  { s with events := rest, lost := if added.isEmpty then s.lost else 0, attn := attnLevel rest.length s.watermark }

/-- POP-EVENTS (R155, R156, R175). -/
def cmdPopEvents (count : Byte) (s : State) : Answer :=
  if decide (1 ≤ count.toNat) && decide (count.toNat ≤ 4) then
    Answer.report (popData (s.events.take count.toNat)) (removeRecords count.toNat s)
  else Answer.refuse .badArg s

/-- POP_EVENTS. -/
def execPopEvents (count : Byte) (f : FrameTail) (s : State) : Host.Outcome State Fault Refusal :=
  .next (frameEnd ([0x50, count] ++ f.extra) (cmdPopEvents count) s)

/-! ## Snapshots -/

/-- READ-STREAM (R18, R176). -/
def cmdReadStream (stream : Byte) (s : State) : Answer :=
  match streamOf stream with
  | none => Answer.refuse .badArg s
  | some n => Answer.report (streamData n (s.stream n)) s

/-- READ_STREAM. -/
def execReadStream (stream : Byte) (f : FrameTail) (s : State) : Host.Outcome State Fault Refusal :=
  .next (frameEnd ([0x51, stream] ++ f.extra) (cmdReadStream stream) s)

/-- READ-PAGE (R38, R177). -/
def cmdReadPage (page : Byte) (s : State) : Answer :=
  match pageOf page with
  | none => Answer.refuse .badArg s
  | some p => Answer.report (pageData s p) s

/-- READ_PAGE. -/
def execReadPage (page : Byte) (f : FrameTail) (s : State) : Host.Outcome State Fault Refusal :=
  .next (frameEnd ([0x52, page] ++ f.extra) (cmdReadPage page) s)

/-- Every counter of a group set to 0 (R162). -/
def clearGroup (g : CounterGroup) (s : State) : State :=
  match g with
  | .stream n => s.modStream n fun st =>
      { st with closed := 0, heldFrames := 0, sunk := 0, published := 0, damaged := 0, dropped := 0 }
  | .slot n x => s.modSlot n x fun sl => { sl with takes := 0, repeats := 0, frozenTakes := 0 }
  | .port p => s.modPort p fun po => { po with accepted := 0, refused := 0, faults := 0 }
  | .device => { s with stray := 0 }

/-- READ-COUNTERS: the snapshot, then the clear (R162, R178). -/
def cmdReadCounters (kind number slot clear : Byte) (s : State) : Answer :=
  match groupOf kind number slot, flagOf clear with
  | some g, some c => Answer.report (countersData kind number s g) (if c then clearGroup g s else s)
  | _, _ => Answer.refuse .badArg s

/-- READ_COUNTERS. -/
def execReadCounters (group number slot clear : Byte) (f : FrameTail) (s : State) : Host.Outcome State Fault Refusal :=
  .next (frameEnd ([0x53, group, number, slot, clear] ++ f.extra)
    (cmdReadCounters group number slot clear) s)

end Sys2Proof.Machine
end

