-- ==== Sys2Proof/Machine/Resets.lean ====
section
/-! DEFINITION. DATAPATH_RESET, PIN_RESET, RESETN_RISE and CHIP_SELECT_RISE_AFTER_PIN_RESET. -/

namespace Sys2Proof.Machine

/-! ## Datapath reset (R179) -/

/-- A piece at a datapath reset: a queued one is removed, and its WRITE data, of which the manual says only that a WRITE
gives it up at issue, is dropped with it (R131, log 22); beats kept for the response are given up (R130, log 16). -/
def Piece.afterReset (pc : Piece) : Piece :=
  { pc with
    status := if pc.status == .queued then .removed else pc.status
    data := if pc.status == .queued then [] else pc.data
    readData := [] }

/-- An entry at a datapath reset: undelivered ones hold REFUSED RESET, ORPHANED and FREE ones are not changed (R130,
R131). -/
def Entry.afterReset (en : Entry) : Entry :=
  if en.undelivered then
    { en with state := .doneWaiting, prepared := some refusedReset, pieces := en.pieces.map Piece.afterReset }
  else en

/-- The entry's count on page p for an access is lowered by the reset itself: the count was still raised and nothing is
outstanding (R131, case 3 of R29). -/
def Entry.lowersAtReset (en : Entry) (k : Access) (p : PageId) : Bool :=
  en.undelivered && en.kind == k && en.target.map (·.page) == some p && en.inFlight && !en.anyOutstanding

/-- How much the reset itself lowers a count of page p (R131). -/
def loweredAtReset (s : State) (k : Access) (p : PageId) : Nat :=
  ((List.finRange 48).filter fun e => (s.entry e).lowersAtReset k p).length

/-- A page at a datapath reset: counts lowered, released unless UNASSIGNED or FREE, damaged flag off (R37). -/
def Page.afterReset (pg : Page) (writes reads : Nat) : Page :=
  let q := { pg with writeCount := pg.writeCount - writes, readCount := pg.readCount - reads, damaged := false }
  if pg.stage == .unassigned || pg.stage == .free then q else q.released

/-- A stream at a datapath reset (R2, R4, R95). -/
def Stream.afterReset (st : Stream) : Stream :=
  { st with
    state := if st.active then .off else st.state
    fillPage := none, starved := false, starvedFrames := 0, parity := false, ready := []
    slotA := { st.slotA with held := none }, slotB := { st.slotB with held := none } }

/-- A port at a datapath reset: its queue emptied, its presented response withdrawn (R130, R131). -/
def Port.afterReset (po : Port) : Port := { po with queue := [], presented := none }

/-- The tables after a datapath reset, before the ports present again (R2, R4, R37, R95, R130, R131, R148). -/
def resetTables (s : State) : State :=
  { s with
    streams := mapAll s.streams fun _ st => st.afterReset
    pages := mapAll s.pages fun p pg => pg.afterReset (loweredAtReset s .write p) (loweredAtReset s .read p)
    entries := mapAll s.entries fun _ en => en.afterReset
    ports := mapAll s.ports fun _ po => po.afterReset }

/-- Every port presents its oldest deliverable response (R129). -/
def presentAll (s : State) : State := present 3 (present 2 (present 1 (present 0 s)))

/-- The datapath state at the end of the reset's own work: QUIESCING with any non-FREE entry left, else NORMAL with
DATAPATH_QUIET raised (R133, R134). -/
def setQuiescing (s : State) : State :=
  if (List.finRange 48).any fun e => (s.entry e).state != .free then { s with datapath := .quiescing }
  else { s with datapath := .normal }.raise { kind := .datapathQuiet }

/-- DATAPATH-RESET with its confirmation 0xA5 (R179). -/
def cmdDatapathReset (confirmation : Byte) (s : State) : Answer :=
  if confirmation == 0xA5 then Answer.done (setQuiescing (presentAll (resetTables s))) else Answer.refuse .badArg s

/-- DATAPATH_RESET. -/
def execDatapathReset (confirmation : Byte) (f : FrameTail) (s : State) : Host.Outcome State Fault Refusal :=
  .next (steeringFrameEnd ([0x7E, confirmation] ++ f.extra) (cmdDatapathReset confirmation) s)

/-! ## Pin reset (R182) -/

/-- RESETN low: every item of the part at its pin-reset value, MDO driven low; what stands on the links and in the queue of
events is not the part's and stays (R182, R102, log 19). -/
def holdReset (s : State) : State :=
  { State.reset with resetn := false, mdo := .driven false, links := s.links, pending := s.pending }

/-- PIN_RESET. -/
def execPinReset (s : State) : Host.Outcome State Fault Refusal := .next (holdReset s)

/-- RESETN_RISE: the part begins to work; with chip select low the rest of that low period is no frame, and MDO is driven
low until it rises (R165, R182); requests that waited on the links are tested afresh (R102). RESETN cannot rise while it is
high (log 14). -/
def execResetnRise (mcsLow : Bool) (s : State) : Host.Outcome State Fault Refusal :=
  .next (if s.resetn then s
    else testWaiting
      { s with resetn := true, awaitRise := mcsLow, mdo := if mcsLow then .driven false else .notDriven })

/-- CHIP_SELECT_RISE_AFTER_PIN_RESET: it ends no frame, and the part stops driving MDO (R165). -/
def execChipSelectRiseAfterPinReset (s : State) : Host.Outcome State Fault Refusal :=
  .next (if s.resetn && s.awaitRise then { s with awaitRise := false, mdo := .notDriven } else s)

end Sys2Proof.Machine
end

