-- ==== Sys2Proof/Machine/Strobes.lean ====
section
/-! DEFINITION. BOUNDARY_EVENT and TAKE_EVENT (chapters 3 and 4). -/

namespace Sys2Proof.Machine

/-! ## Boundary events -/

/-- What every closing boundary begins with: parity 0, the next frame number advanced, frames closed counted (R43). -/
def beginClosing (n : StreamId) (s : State) : State :=
  s.modStream n fun st => { st with parity := false, nextFrame := st.nextFrame + 1, closed := st.closed + 1 }

/-- A frame held under producer freeze is only counted (R45). -/
def holdFrame (n : StreamId) (s : State) : State :=
  s.modStream n fun st => { st with heldFrames := st.heldFrames + 1 }

/-- The fill page leaves the stream for CLOSING with frame number f, and seals at once with write count 0 (R46 steps 1, 2). -/
def closeFill (n : StreamId) (f : Word32) (s : State) : State :=
  match (s.stream n).fillPage with
  | none => s
  | some p =>
    if (s.page p).stage == .filling then
      let s1 := (s.modPage p fun pg => { pg with stage := .closing, frame := some f }).modStream n
        fun st => { st with fillPage := none }
      if (s1.page p).writeCount == 0 then sealPage n p s1 else s1
    else s

/-- The stream starves: no fill page, PRODUCER_STARVED with the frame that could not get a page (R49). -/
def starve (n : StreamId) (s : State) : State :=
  (s.modStream n fun st => { st with starved := true, fillPage := none, starvedFrames := 0 }).raise
    { kind := .producerStarved, stream := some n, frame := some (s.stream n).nextFrame }

/-- A closing boundary that closes frame f on the fill page (R46). -/
def closeFrame (n : StreamId) (f : Word32) (s : State) : State :=
  let s1 := closeFill n f s
  match seekFill n s1 with
  | some (_, s2) => s2
  | none => starve n s1

/-- A sunk frame is counted, in the counter and in the starved-frame count (R50). -/
def countSunk (n : StreamId) (s : State) : State :=
  s.modStream n fun st =>
    { st with sunk := st.sunk + 1, starvedFrames := min (st.starvedFrames + 1) 0xFFFFFFFF }

/-- The stream resumes with fill page p: PRODUCER_RESUMED with the starved-frame count, which then is 0 (R51). -/
def resume (n : StreamId) (p : PageId) (s : State) : State :=
  (s.modStream n fun st => { st with starved := false, starvedFrames := 0 }).raise
    { kind := .producerResumed, stream := some n, page := some p,
      count := some (BitVec.ofNat 32 (s.stream n).starvedFrames) }

/-- A closing boundary on a starved stream (R50). -/
def sinkFrame (n : StreamId) (s : State) : State :=
  let s1 := countSunk n s
  match seekFill n s1 with
  | some (p, s2) => resume n p s2
  | none => s1

/-- A closing boundary (R43). -/
def closingBoundary (n : StreamId) (s : State) : State :=
  let st := s.stream n
  let s1 := beginClosing n s
  if st.starved then sinkFrame n s1
  else if st.freeze then holdFrame n s1
  else closeFrame n st.nextFrame s1

/-- A boundary event on a RUNNING stream: a field boundary or a closing boundary (R42, R43). -/
def takenBoundary (n : StreamId) (s : State) : State :=
  let st := s.stream n
  if st.transform == .weave && !st.parity then s.modStream n fun st => { st with parity := true }
  else closingBoundary n s

/-- A boundary event on stream n: ignored, or taken, with the re-test of waiting requests behind it (R41, R122). -/
def boundary (n : StreamId) (s : State) : State :=
  if (s.stream n).state == .running then testWaiting (takenBoundary n s) else s

/-- BOUNDARY_EVENT: FB lines are not read while RESETN is low (R181, R182). -/
def execBoundaryEvent (n : StreamId) (s : State) : Host.Outcome State Fault Refusal :=
  .next (if s.resetn then boundary n s else s)

/-! ## Take events -/

/-- The candidate of a take: under NEWEST the newest ready page, under OLDEST the oldest, if newer than the slot's last
taken frame number (R67, R68). -/
def candidate (s : State) (n : StreamId) (x : SlotId) : Option PageId :=
  let st := s.stream n
  let last := (s.slot n x).lastTaken
  match st.takePolicy with
  | .newest =>
    match st.ready.getLast? with
    | some p => if newerThanTaken (s.page p).frame last then some p else none
    | none => none
  | .oldest => st.ready.find? fun p => newerThanTaken (s.page p).frame last

/-- The slot leaves the holders of the page it holds (R69 step 1). -/
def leaveHeld (n : StreamId) (x : SlotId) (s : State) : State :=
  match (s.slot n x).held with
  | some o => s.modPage o fun pg => pg.setHolder x false
  | none => s

/-- The slot record of a successful take of page c with that frame number (R69 steps 2 to 5). -/
def Slot.taken (sl : Slot) (c : PageId) (frame : Option Word32) : Slot :=
  { sl with held := some c, lastTaken := frame, takes := sl.takes + 1, repeatsInRow := 0, staleRaised := false }

/-- The retirement tests of a successful take: the old page under NEWEST, and every ready page under OLDEST (R69 step 6). -/
def retireAfterTake (n : StreamId) (old : Option PageId) (s : State) : State :=
  let s1 := match old with
    | some o => retireTest n s o
    | none => s
  match (s.stream n).takePolicy with
  | .newest => s1
  | .oldest => retireAll n s1

/-- A successful take of page c (R69). -/
def successfulTake (n : StreamId) (x : SlotId) (c : PageId) (s : State) : State :=
  let old := (s.slot n x).held
  let s1 := (leaveHeld n x s).modPage c fun pg => pg.setHolder x true
  retireAfterTake n old (s1.modSlot n x fun sl => sl.taken c (s.page c).frame)

/-- The stale test holds for a slot whose consecutive repeats have been incremented (R71). -/
def Slot.staleNow (sl : Slot) : Bool :=
  sl.staleThreshold != 0 && decide (sl.staleThreshold.toNat ≤ sl.repeatsInRow) && !sl.staleRaised

/-- The stale test (R71). -/
def staleTest (n : StreamId) (x : SlotId) (s : State) : State :=
  if (s.slot n x).staleNow then
    (s.raise { kind := .consumerStale, stream := some n, slot := some x,
               count := some (BitVec.ofNat 32 (s.slot n x).repeatsInRow) }).modSlot n x
      fun sl => { sl with staleRaised := true }
  else s

/-- A repeat (R70). -/
def repeatTake (n : StreamId) (x : SlotId) (s : State) : State :=
  staleTest n x (s.modSlot n x fun sl =>
    { sl with repeats := sl.repeats + 1, repeatsInRow := min (sl.repeatsInRow + 1) 255 })

/-- A frozen take (R66). -/
def frozenTake (n : StreamId) (x : SlotId) (s : State) : State :=
  s.modSlot n x fun sl => { sl with frozenTakes := sl.frozenTakes + 1 }

/-- A take event: ignored, frozen, a repeat, or successful, with the re-test of waiting requests behind it (R65, R122). -/
def take (n : StreamId) (x : SlotId) (s : State) : State :=
  if (s.stream n).state == .running && (s.slot n x).enabled then
    if (s.slot n x).freeze then frozenTake n x s
    else match candidate s n x with
      | some c => testWaiting (successfulTake n x c s)
      | none => repeatTake n x s
  else s

/-- TAKE_EVENT: TK lines are not read while RESETN is low (R181, R182). -/
def execTakeEvent (n : StreamId) (x : SlotId) (s : State) : Host.Outcome State Fault Refusal :=
  .next (if s.resetn then take n x s else s)

end Sys2Proof.Machine
end

