-- ==== Sys2Proof/Machine/Dispatch.lean ====
section
/-! DEFINITION. The effect of each event on everything but the queue: one arm per row of spec/opcode_table.json. -/

namespace Sys2Proof.Machine

def exec (i : Instr) (s : State) : Host.Outcome State Fault Refusal :=
  match i with
  | .boundaryEvent n => Sys2Proof.Machine.execBoundaryEvent n s
  | .takeEvent n x => Sys2Proof.Machine.execTakeEvent n x s
  | .acceptance p r urg => Sys2Proof.Machine.execAcceptance p r urg s
  | .indication urg => Sys2Proof.Machine.execIndication urg s
  | .downstreamCompletion c => Sys2Proof.Machine.execDownstreamCompletion c s
  | .delivery p => Sys2Proof.Machine.execDelivery p s
  | .nop f => Sys2Proof.Machine.execNop f s
  | .setStream a f => Sys2Proof.Machine.execSetStream a f s
  | .clearStream n f => Sys2Proof.Machine.execClearStream n f s
  | .setConsumer a f => Sys2Proof.Machine.execSetConsumer a f s
  | .assignPage a f => Sys2Proof.Machine.execAssignPage a f s
  | .unassignPage p f => Sys2Proof.Machine.execUnassignPage p f s
  | .startStream n f => Sys2Proof.Machine.execStartStream n f s
  | .stopStream n f => Sys2Proof.Machine.execStopStream n f s
  | .freeze n t o f => Sys2Proof.Machine.execFreeze n t o f s
  | .setArbiter w0 w1 w2 w3 f => Sys2Proof.Machine.execSetArbiter w0 w1 w2 w3 f s
  | .setEvents w m f => Sys2Proof.Machine.execSetEvents w m f s
  | .popEvents k f => Sys2Proof.Machine.execPopEvents k f s
  | .readStream n f => Sys2Proof.Machine.execReadStream n f s
  | .readPage p f => Sys2Proof.Machine.execReadPage p f s
  | .readCounters g n x c f => Sys2Proof.Machine.execReadCounters g n x c f s
  | .datapathReset c f => Sys2Proof.Machine.execDatapathReset c f s
  | .unknownCommand c f => Sys2Proof.Machine.execUnknownCommand c f s
  | .discardedFrame bits => Sys2Proof.Machine.execDiscardedFrame bits s
  | .pinReset => Sys2Proof.Machine.execPinReset s
  | .resetnRise low => Sys2Proof.Machine.execResetnRise low s
  | .shortFrame c f => Sys2Proof.Machine.execShortFrame c f s
  | .chipSelectRiseAfterPinReset => Sys2Proof.Machine.execChipSelectRiseAfterPinReset s

end Sys2Proof.Machine
end

