-- ==== Sys2Proof/WellFormed.lean ====
section
/-! DEFINITION. Which terms of Instr are events that can happen: the operands that the types do not already bound. -/

namespace Sys2Proof

/-- A partial byte has fewer than eight bits, since eight complete a byte (R164). -/
def FrameTail.wellFormed (f : FrameTail) : Bool := decide (f.partialBits.length < 8)

/-- UNKNOWN_COMMAND has a code that the command set does not define, SHORT_FRAME a defined code and too few argument
bytes, DISCARDED_FRAME fewer than eight bits (R164 to R166, R171). Everything else is bounded by its type. -/
def Instr.wellFormed (i : Instr) : Bool :=
  match i with
  | .boundaryEvent _ => true
  | .takeEvent _ _ => true
  | .acceptance _ _ _ => true
  | .indication _ => true
  | .downstreamCompletion _ => true
  | .delivery _ => true
  | .nop f => f.wellFormed
  | .setStream _ f => f.wellFormed
  | .clearStream _ f => f.wellFormed
  | .setConsumer _ f => f.wellFormed
  | .assignPage _ f => f.wellFormed
  | .unassignPage _ f => f.wellFormed
  | .startStream _ f => f.wellFormed
  | .stopStream _ f => f.wellFormed
  | .freeze _ _ _ f => f.wellFormed
  | .setArbiter _ _ _ _ f => f.wellFormed
  | .setEvents _ _ f => f.wellFormed
  | .popEvents _ f => f.wellFormed
  | .readStream _ f => f.wellFormed
  | .readPage _ f => f.wellFormed
  | .readCounters _ _ _ _ f => f.wellFormed
  | .datapathReset _ f => f.wellFormed
  | .unknownCommand c f => f.wellFormed && (commandArgs c).isNone
  | .discardedFrame bits => decide (bits.length < 8)
  | .pinReset => true
  | .resetnRise _ => true
  | .shortFrame c f =>
    f.wellFormed && match commandArgs c with
      | some n => decide (f.extra.length < n)
      | none => false
  | .chipSelectRiseAfterPinReset => true

end Sys2Proof
end

