-- ==== Sys2Proof/Safety.lean ====
section
/-! DEFINITION. The laws of the part in the terms that claims use: each holds of State.reset, and no event breaks the
whole of them; and the states that a run can reach. -/

namespace Sys2Proof.Machine

/-! ## The event queue (R152, R154, R157) -/

/-- At most 32 records, at most 65,535 lost, records lost only behind a full queue, ATTN as R157 says. -/
def EventQueueLaw (s : State) : Prop :=
  s.events.length ≤ 32 ∧ s.lost ≤ 65535 ∧ (0 < s.lost → s.events.length = 32) ∧ 1 ≤ s.watermark ∧ s.watermark ≤ 32
    ∧ s.attn = decide (s.watermark ≤ s.events.length)

/-! ## The scheduler (R140, R142) -/

/-- Weights 1 to 8, no credit above its weight, at most 96 indications, and none unused while a piece is queued. -/
def ArbiterLaw (s : State) : Prop :=
  (∀ p : PortId, 1 ≤ (s.port p).weight ∧ (s.port p).weight ≤ 8 ∧ (s.port p).credit ≤ (s.port p).weight)
    ∧ s.indications ≤ 96 ∧ (s.indications = 0 ∨ ∀ p : PortId, (s.port p).queue = [])

/-! ## Rings and ranges (R21, R26, R27) -/

/-- Rings without duplicates, of at most 8 pages; a page stands in a stream's ring exactly when it is assigned and that
stream owns it; every assigned page has an owner, no other page has one. -/
def RingLaw (s : State) : Prop :=
  (∀ n : StreamId, (s.stream n).ring.Nodup ∧ (s.stream n).ring.length ≤ 8)
    ∧ (∀ n : StreamId, ∀ p : PageId,
        p ∈ (s.stream n).ring ↔ (s.page p).stage ≠ .unassigned ∧ (s.page p).owner = some n)
    ∧ ∀ p : PageId, (s.page p).owner = none ↔ (s.page p).stage = .unassigned

/-- Assigned pages and defined apertures are pairwise disjoint; assigned pages lie inside the address space; the slots of
an UNDEFINED stream are DISABLED. -/
def RangesLaw (s : State) : Prop :=
  ((definedApertures s).Pairwise fun a b => a.range.overlaps b.range = false)
    ∧ (∀ a ∈ definedApertures s, ∀ p : PageId, (s.page p).stage ≠ .unassigned →
        a.range.overlaps (s.page p).range = false)
    ∧ (∀ p q : PageId, p ≠ q → (s.page p).stage ≠ .unassigned → (s.page q).stage ≠ .unassigned →
        (s.page p).range.overlaps (s.page q).range = false)
    ∧ (∀ p : PageId, (s.page p).base.toNat + (s.page p).size.toNat ≤ 2 ^ 40)
    ∧ ∀ n : StreamId, (s.stream n).state = .undefined →
        (s.stream n).slotA.enabled = false ∧ (s.stream n).slotB.enabled = false

/-- The crop window of a slot fits in its stream's page image (conditions 4 and 5 of R15). -/
def CropFits (st : Stream) (sl : Slot) : Prop :=
  sl.cropLine.toNat + sl.lines.toNat ≤ st.pageLines ∧ sl.cropByte.toNat + sl.lineLength.toNat ≤ st.lineLength.toNat

/-- The five conditions of R15 hold of stream n. -/
def GeometryFits (s : State) (n : StreamId) : Prop :=
  2 ≤ (s.stream n).ring.length
    ∧ (s.stream n).lineLength.toNat ≤ (s.stream n).stride.toNat
    ∧ (∀ p ∈ (s.stream n).ring, (s.stream n).stride.toNat * (s.stream n).pageLines ≤ (s.page p).size.toNat)
    ∧ ((s.stream n).slotA.enabled = true → CropFits (s.stream n) (s.stream n).slotA)
    ∧ ((s.stream n).slotB.enabled = true → CropFits (s.stream n) (s.stream n).slotB)

/-- The conditions of R15 hold of every RUNNING or STOPPING stream (R16). -/
def GeometryLaw (s : State) : Prop :=
  ∀ n : StreamId, (s.stream n).state = .running ∨ (s.stream n).state = .stopping → GeometryFits s n

/-! ## Configuration (R1, R3, R6, R9) -/

/-- The configuration of a slot as SET-CONSUMER accepts it (R9). -/
def slotConfigured (sl : Slot) : Prop :=
  pageAligned sl.base = true ∧ linesOk sl.lines = true ∧ lineLengthOk sl.lineLength = true
    ∧ sl.cropLine.toNat ≤ 8191 ∧ sl.cropByte.toNat ≤ 16368 ∧ sl.cropByte.toNat % 16 = 0 ∧ sl.aperture.pastTop = false

/-- A defined stream and each enabled slot have the configuration that R6 and R9 accept; assigned pages have the base and
size that R22 accepts. -/
def ConfigLaw (s : State) : Prop :=
  (∀ n : StreamId, (s.stream n).state ≠ .undefined →
      pageAligned (s.stream n).base = true ∧ linesOk (s.stream n).lines = true
        ∧ lineLengthOk (s.stream n).lineLength = true ∧ strideOk (s.stream n).stride = true
        ∧ (s.stream n).aperture.pastTop = false)
    ∧ (∀ n : StreamId, ∀ x : SlotId, (s.slot n x).enabled = true → slotConfigured (s.slot n x))
    ∧ ∀ p : PageId, (s.page p).stage ≠ .unassigned →
        pageAligned (s.page p).base = true ∧ (s.page p).size.toNat % 4096 = 0
          ∧ 1 ≤ (s.page p).size.toNat ∧ (s.page p).size.toNat ≤ 268435456

/-! ## Stream states, fill pages, ready lists, holders (R33, R40, R59, R64, R84) -/

/-- A stream that is not RUNNING has no fill page, no ready page, no held page, and only FREE and RETIRING ring pages; a
STOPPING one has a ring page that is not FREE; an UNDEFINED one has no ring (R84). -/
def LifecycleLaw (s : State) : Prop :=
  ∀ n : StreamId,
    ((s.stream n).state ≠ .running →
      (s.stream n).fillPage = none ∧ (s.stream n).starved = false ∧ (s.stream n).ready = []
        ∧ (s.stream n).slotA.held = none ∧ (s.stream n).slotB.held = none
        ∧ ∀ p ∈ (s.stream n).ring, (s.page p).stage = .free ∨ (s.page p).stage = .retiring)
    ∧ ((s.stream n).state = .stopping → ∃ p ∈ (s.stream n).ring, (s.page p).stage = .retiring)
    ∧ ((s.stream n).state = .undefined → (s.stream n).ring = [])

/-- A RUNNING stream is starved exactly when it has no fill page; a ring page is FILLING exactly when it is the fill page
(R40). -/
def FillLaw (s : State) : Prop :=
  ∀ n : StreamId,
    ((s.stream n).state = .running → ((s.stream n).starved = true ↔ (s.stream n).fillPage = none))
    ∧ (∀ p ∈ (s.stream n).ring, (s.page p).stage = .filling ↔ (s.stream n).fillPage = some p)
    ∧ ∀ p, (s.stream n).fillPage = some p → p ∈ (s.stream n).ring

/-- The ready list holds exactly the PUBLISHED pages of the stream's ring, each once (R59). -/
def ReadyLaw (s : State) : Prop :=
  ∀ n : StreamId, (s.stream n).ready.Nodup
    ∧ ∀ p : PageId, p ∈ (s.stream n).ready ↔ p ∈ (s.stream n).ring ∧ (s.page p).stage = .published

/-- A slot is among the holders of a page exactly when the page's owner stream has it as that slot's held page, and a held
page is a PUBLISHED page of the slot's stream (R33, R63). -/
def HolderLaw (s : State) : Prop :=
  (∀ p : PageId, ∀ x : SlotId, (s.page p).holds x = true ↔
      ∃ n : StreamId, (s.page p).owner = some n ∧ (s.slot n x).held = some p)
    ∧ ∀ n : StreamId, ∀ x : SlotId, ∀ p : PageId, (s.slot n x).held = some p → p ∈ (s.stream n).ready

/-! ## Pages and counts (R21, R28) -/

/-- What each stage says of a page's frame number and counts (R21). -/
def StageLaw (s : State) : Prop :=
  ∀ p : PageId,
    ((s.page p).frame ≠ none ↔
      (s.page p).stage = .closing ∨ (s.page p).stage = .sealed ∨ (s.page p).stage = .published)
    ∧ ((s.page p).stage = .unassigned ∨ (s.page p).stage = .free →
        (s.page p).writeCount = 0 ∧ (s.page p).readCount = 0)
    ∧ ((s.page p).stage = .sealed ∨ (s.page p).stage = .published → (s.page p).writeCount = 0)
    ∧ ((s.page p).stage = .closing → 0 < (s.page p).writeCount)
    ∧ ((s.page p).stage = .retiring → 0 < (s.page p).writeCount + (s.page p).readCount)

/-- The number of entries of an access directed to a page that still have a piece queued or outstanding (R28). -/
def inFlightOn (s : State) (k : Access) (p : PageId) : Nat :=
  ((List.finRange 48).filter fun e =>
    (s.entry e).kind == k && (s.entry e).target.map (·.page) == some p && (s.entry e).inFlight).length

/-- Each count of a page is the number of entries that are in flight on it (R28). -/
def CountLaw (s : State) : Prop :=
  ∀ p : PageId, (s.page p).writeCount = inFlightOn s .write p ∧ (s.page p).readCount = inFlightOn s .read p

/-! ## The transaction table (R120 to R124, R128, R129, R137) -/

/-- A downstream tag stands in port p's issue queue exactly when it names a queued piece of an entry of port p. -/
def namesQueued (s : State) (p : PortId) (r : PieceRef) : Prop :=
  (s.entry r.entry).port = p ∧ (s.entry r.entry).state ≠ .free
    ∧ ((s.entry r.entry).piece r.second).map (·.status) = some .queued

/-- What each entry state says of its pieces and its prepared response (R121, R124, R127, R130, R132). That the fields of a
FREE entry, which mean nothing (R120), are blank is the model's choice (log 11). -/
def EntryLaw (e : Entry) : Prop :=
  e.pieces.length ≤ 2
    ∧ (e.state = .free → e = Entry.blank)
    ∧ (e.state = .queued → e.prepared = none ∧ e.pieces ≠ [] ∧ ∀ pc ∈ e.pieces, pc.status = .queued)
    ∧ (e.state = .issued → e.prepared = none ∧ e.inFlight = true ∧ ∀ pc ∈ e.pieces, pc.status ≠ .removed)
    ∧ (e.state = .doneWaiting → e.prepared ≠ none ∧ ∀ pc ∈ e.pieces, pc.status ≠ .queued)
    ∧ (e.state = .orphaned → e.prepared = none ∧ e.anyOutstanding = true ∧ ∀ pc ∈ e.pieces, pc.status ≠ .queued)

/-- A port's acceptance order holds exactly its non-FREE entries, each once, at most 12; its issue queue exactly the
queued pieces of its entries, each once, at most 16; what it presents is one of its deliverable entries (R122, R129,
R137). -/
def TableLaw (s : State) : Prop :=
  (∀ e : EntryId, EntryLaw (s.entry e))
    ∧ ∀ p : PortId,
      ((s.port p).order.Nodup ∧ (s.port p).order.length ≤ 12
        ∧ ∀ e : EntryId, e ∈ (s.port p).order ↔ (s.entry e).state ≠ .free ∧ (s.entry e).port = p)
      ∧ ((s.port p).queue.Nodup ∧ (s.port p).queue.length ≤ 16
        ∧ ∀ r : PieceRef, r ∈ (s.port p).queue ↔ namesQueued s p r)
      ∧ ∀ e : EntryId, (s.port p).presented = some e → e ∈ (s.port p).order ∧ (s.entry e).state = .doneWaiting

/-- Entry e, behind the entries `older` in its port's acceptance order, is deliverable: DONE-WAITING, with no older
undelivered entry of its transaction ID (R128). -/
def Deliverable (s : State) (older : List EntryId) (e : EntryId) : Prop :=
  (s.entry e).state = .doneWaiting ∧ ∀ d ∈ older, (s.entry d).undelivered = true → (s.entry d).id ≠ (s.entry e).id

/-- What a port presents has no older undelivered entry of its transaction ID on that port (R128, R129). -/
def OrderLaw (s : State) : Prop :=
  ∀ p : PortId, ∀ e : EntryId, (s.port p).presented = some e →
    Deliverable s ((s.port p).order.takeWhile (· != e)) e

/-- While a REFUSED RESET is undelivered or an entry is ORPHANED the datapath is QUIESCING, and only then (R133). -/
def QuiesceLaw (s : State) : Prop :=
  s.datapath = .quiescing ↔ ∃ e : EntryId, (s.entry e).holdsQuiesce = true

/-- Port p has no room for a request: no entry is FREE, the port holds 12, or its issue queue has no room for the pieces
that steering gives the request (R122). -/
def NoRoom (s : State) (p : PortId) (r : Request) : Prop :=
  (∀ e : EntryId, (s.entry e).state ≠ .free) ∨ 12 ≤ (s.port p).order.length
    ∨ 16 < (s.port p).queue.length + (steer s p r).pieces.length

/-- Out of pin reset, no request that waits on its link could be accepted (R101, R122). That waiting requests stand in
`links.waiting` is the model's choice (log 5), and so is that they are tested again within the event that can let them in
(log 23). -/
def WaitingLaw (s : State) : Prop :=
  s.resetn = true → ∀ (p : PortId) (r : Request), s.links.waiting.get p = some r → NoRoom s p r

/-! ## The order of frames (R43, R54, R59) -/

/-- Frame number a is newer than b (00_scope.md section 5.1). -/
def NewerFrame (a b : Word32) : Prop := 1 ≤ (a - b).toNat ∧ (a - b).toNat ≤ 2 ^ 31 - 1

/-- Page p carries a newer frame than page q. -/
def NewerPage (s : State) (p q : PageId) : Prop :=
  ∃ f g, (s.page p).frame = some f ∧ (s.page q).frame = some g ∧ NewerFrame f g

/-- Page p is a pending page of stream n (R54). -/
def Pending (s : State) (n : StreamId) (p : PageId) : Prop :=
  p ∈ (s.stream n).ring ∧ ((s.page p).stage = .closing ∨ (s.page p).stage = .sealed)

/-- Fewer than 2^31 closing boundaries lie between the closing of any frame that a page still carries and the next: while
this holds every two frame numbers can be compared (R43). -/
def FramesRecent (s : State) : Prop :=
  ∀ n : StreamId, ∀ p ∈ (s.stream n).ring, ∀ f, (s.page p).frame = some f → NewerFrame (s.stream n).nextFrame f

/-- Ready pages stand in increasing frame order, each pending page carries a newer frame than every ready page, and no two
pending pages of a stream carry the same frame (R54, R55, R59). -/
def FramesInOrder (s : State) : Prop :=
  ∀ n : StreamId, ((s.stream n).ready.Pairwise fun p q => NewerPage s q p)
    ∧ (∀ p q : PageId, Pending s n p → q ∈ (s.stream n).ready → NewerPage s p q)
    ∧ ∀ p q : PageId, Pending s n p → Pending s n q → p ≠ q → (s.page p).frame ≠ (s.page q).frame

/-! ## The words that claims use -/

/-- The k lowest bytes of a number, most significant first (R185). -/
def bigEndian (k x : Nat) : List Byte := (List.range k).map fun i => BitVec.ofNat 8 (x / 256 ^ (k - 1 - i))

/-- The record r has been raised between s and t: masked, stored or counted as lost (R152, R157). -/
def Raised (r : EventRecord) (s t : State) : Prop :=
  (s.kindEnabled r.kind = false → t.events = s.events ∧ t.lost = s.lost ∧ t.attn = s.attn)
    ∧ (s.kindEnabled r.kind = true → s.events.length < 32 →
        t.events = s.events ++ [r] ∧ t.lost = s.lost ∧ t.attn = decide (s.watermark ≤ s.events.length + 1))
    ∧ (s.kindEnabled r.kind = true → 32 ≤ s.events.length →
        t.events = s.events ∧ t.lost = min (s.lost + 1) 65535 ∧ t.attn = s.attn)

/-- Streams and pages are as they were. -/
def SameRotation (s t : State) : Prop := t.streams = s.streams ∧ t.pages = s.pages

/-- Transaction table, ports, scheduler, datapath state and stray count are as they were. -/
def SameTraffic (s t : State) : Prop :=
  t.entries = s.entries ∧ t.ports = s.ports ∧ t.pointer = s.pointer ∧ t.indications = s.indications
    ∧ t.datapath = s.datapath ∧ t.stray = s.stray

/-- Watermark and kind mask are as they were. -/
def SameSettings (s t : State) : Prop := t.watermark = s.watermark ∧ t.kindMask = s.kindMask

/-- The event queue, its settings, its lost count and ATTN are as they were. -/
def SameEvents (s t : State) : Prop :=
  t.events = s.events ∧ t.lost = s.lost ∧ t.attn = s.attn ∧ SameSettings s t

/-- The management port, RESETN and the queue of events are as they were. -/
def SamePort (s t : State) : Prop :=
  t.response = s.response ∧ t.rx = s.rx ∧ t.awaitRise = s.awaitRise ∧ t.mdo = s.mdo ∧ t.resetn = s.resetn
    ∧ t.pending = s.pending

/-- Every stream but n is as it was. -/
def OtherStreams (n : StreamId) (s t : State) : Prop := ∀ m : StreamId, m ≠ n → t.stream m = s.stream m

/-- Every page that the list does not name is as it was. -/
def OtherPages (l : List PageId) (s t : State) : Prop := ∀ q : PageId, q ∉ l → t.page q = s.page q

/-- Every entry but e is as it was. -/
def OtherEntries (e : EntryId) (s t : State) : Prop := ∀ d : EntryId, d ≠ e → t.entry d = s.entry d

/-- Every port but p is as it was. -/
def OtherPorts (p : PortId) (s t : State) : Prop := ∀ q : PortId, q ≠ p → t.port q = s.port q

/-- What a strobe event leaves alone, whatever it does: traffic, links, management port, settings of the event queue. -/
def StrobeFrame (s t : State) : Prop := SameTraffic s t ∧ SameSettings s t ∧ SamePort s t ∧ t.links = s.links

/-- Nothing but streams, pages, event queue, lost count and ATTN has changed. -/
def RotationOnly (s t : State) : Prop :=
  t = { s with streams := t.streams, pages := t.pages, events := t.events, lost := t.lost, attn := t.attn }

/-- The record has been raised, and nothing else has changed. -/
def RaisedOnly (r : EventRecord) (s t : State) : Prop :=
  Raised r s t ∧ t = { s with events := t.events, lost := t.lost, attn := t.attn }

/-- A management frame of these bytes has been taken between s and t and has left this response: the old response has gone
out byte by byte, most significant bit first, with zeros behind it, the partial byte is gone and MDO is not driven (R164,
R165, R168, R169). The record links.mdoBits of what went out is the model's own (log 6); what else the receiver holds
between frames is not said here (log 7). -/
def FrameTaken (bytes response : List Byte) (s t : State) : Prop :=
  t.response = response ∧ t.rx.bits = [] ∧ t.mdo = .notDriven
    ∧ (∃ out : List Byte, out.length = bytes.length ∧ (∀ k, k < bytes.length → out[k]? = some (s.response.getD k 0))
        ∧ t.links =
          { s.links with
            mdoBits := s.links.mdoBits ++ [out.flatMap fun b => (List.range 8).map fun k => b.getMsbD k] })
    ∧ t.resetn = s.resetn ∧ t.awaitRise = s.awaitRise ∧ t.pending = s.pending

/-- The frame that event i is has been taken between s and t and has left this response. -/
def Framed (i : Instr) (response : List Byte) (s t : State) : Prop :=
  ∃ bytes bits, frameOf i = some (bytes, bits) ∧ FrameTaken bytes response s t

/-- What a refused command leaves: its code as the whole response, and everything else as it was (R168, R172). -/
def RefusedBy (i : Instr) (code : Byte) (s t : State) : Prop :=
  Framed i [code] s t ∧ SameRotation s t ∧ SameTraffic s t ∧ SameEvents s t

/-- The management port takes frames: RESETN is high and chip select has risen since the pin reset (R165, R182). -/
def PortReady (s : State) : Prop := s.resetn = true ∧ s.awaitRise = false

/-- A boundary event on stream n is a closing boundary (R42, R43). -/
def Closing (s : State) (n : StreamId) : Prop :=
  s.resetn = true ∧ (s.stream n).state = .running
    ∧ ((s.stream n).transform = .weave → (s.stream n).parity = true)

/-- Page p is the first FREE page of stream n in ring order (R47). -/
def FirstFree (s : State) (n : StreamId) (p : PageId) : Prop :=
  ∃ older newer, (s.stream n).ring = older ++ p :: newer ∧ (s.page p).stage = .free
    ∧ ∀ q ∈ older, (s.page q).stage ≠ .free

/-- Stream n can get no fill page: no ring page is FREE, and the policy is SINK or every ready page has a holder or a read
in flight (R47, R48). -/
def NoFillPage (s : State) (n : StreamId) : Prop :=
  (∀ q ∈ (s.stream n).ring, (s.page q).stage ≠ .free)
    ∧ ((s.stream n).poolPolicy = .sink
        ∨ ∀ q ∈ (s.stream n).ready, (s.page q).holdA = true ∨ (s.page q).holdB = true ∨ (s.page q).readCount ≠ 0)

/-- Page p is the page that stream n recycles: no ring page is FREE, the policy is RECYCLE, and p is the oldest ready page
without holder and without read in flight (R48). -/
def Recyclable (s : State) (n : StreamId) (p : PageId) : Prop :=
  (∀ q ∈ (s.stream n).ring, (s.page q).stage ≠ .free) ∧ (s.stream n).poolPolicy = .recycle
    ∧ (s.page p).stage = .published ∧ (s.page p).holdA = false ∧ (s.page p).holdB = false ∧ (s.page p).readCount = 0
    ∧ ∃ older newerPages, (s.stream n).ready = older ++ p :: newerPages
      ∧ ∀ q ∈ older, (s.page q).holdA = true ∨ (s.page q).holdB = true ∨ (s.page q).readCount ≠ 0

/-- Page p has become the fill page of stream n, and nothing else has changed (R47). -/
def Filled (n : StreamId) (p : PageId) (s u : State) : Prop :=
  u = (s.modPage p fun pg => { pg with stage := .filling, damaged := false, frame := none }).modStream n
    fun st => { st with fillPage := some p }

/-- The frame on page p has been dropped: off the ready list, counted, FRAME_DROPPED raised (R48). -/
def Dropped (n : StreamId) (p : PageId) (s u : State) : Prop :=
  RaisedOnly { kind := .frameDropped, stream := some n, page := some p, frame := (s.page p).frame }
    (s.modStream n fun st => { st with ready := st.ready.filter (· ≠ p), dropped := st.dropped + 1 }) u

/-! ### Retirement and publication (R53 to R57, R76 to R78) -/

/-- The conditions of R76 hold of page q of stream n. -/
def RetirementHolds (s : State) (n : StreamId) (q : PageId) : Prop :=
  (s.page q).stage = .published ∧ (s.page q).holdA = false ∧ (s.page q).holdB = false
    ∧ (s.stream n).ready.getLast? ≠ some q
    ∧ ((s.stream n).takePolicy = .oldest → ∀ x : SlotId, (s.slot n x).enabled = true →
        ∃ l f, (s.slot n x).lastTaken = some l ∧ (s.page q).frame = some f ∧ (l = f ∨ NewerFrame l f))

/-- The tested pages of stream n for which R76 holds, and no others, have left the ready list and are released: FREE with
both counts 0, else RETIRING. Nothing else has changed (R31, R78). -/
def Retired (n : StreamId) (tested : List PageId) (s u : State) : Prop :=
  ∃ gone : List PageId, (∀ q, q ∈ gone ↔ q ∈ tested ∧ RetirementHolds s n q)
    ∧ u.stream n = { s.stream n with ready := (s.stream n).ready.filter (· ∉ gone) } ∧ OtherStreams n s u
    ∧ (∀ q ∈ gone, u.page q =
        { s.page q with
          frame := none, holdA := false, holdB := false,
          stage := if (s.page q).writeCount = 0 ∧ (s.page q).readCount = 0 then .free else .retiring })
    ∧ OtherPages gone s u ∧ SameEvents s u ∧ RotationOnly s u

/-- Page p is the oldest pending page of stream n (R54). -/
def OldestPending (s : State) (n : StreamId) (p : PageId) : Prop :=
  Pending s n p ∧ ∀ q, Pending s n q → q ≠ p → NewerPage s q p

/-- The SEALED page p has been published, with the retirement test on every ready page behind it (R56). -/
def Published (n : StreamId) (p : PageId) (s u : State) : Prop :=
  ∃ v, v = (s.modPage p fun pg => { pg with stage := .published }).modStream n
      (fun st => { st with ready := st.ready ++ [p], published := st.published + 1 })
    ∧ Retired n (v.stream n).ready v u

/-- The SEALED page p has been discarded: counted, FRAME_DAMAGED raised, released (R57). -/
def Discarded (n : StreamId) (p : PageId) (s u : State) : Prop :=
  ∃ v, RaisedOnly { kind := .frameDamaged, stream := some n, page := some p, frame := (s.page p).frame }
      (s.modStream n fun st => { st with damaged := st.damaged + 1 }) v
    ∧ u = v.modPage p fun pg =>
        { pg with
          frame := none, holdA := false, holdB := false,
          stage := if pg.writeCount = 0 ∧ pg.readCount = 0 then .free else .retiring }

/-- What the publication chain of stream n makes of a state (R55). -/
inductive Chain (n : StreamId) : State → State → Prop
  /-- No page is pending: the chain stops. -/
  | nothing (s : State) (h : ∀ p, ¬ Pending s n p) : Chain n s s
  /-- The oldest pending page is CLOSING: the chain stops. -/
  | wait (s : State) (p : PageId) (h : OldestPending s n p) (c : (s.page p).stage = .closing) : Chain n s s
  /-- The oldest pending page is SEALED and undamaged: it is published, and the chain goes on. -/
  | publish (s v u : State) (p : PageId) (h : OldestPending s n p) (c : (s.page p).stage = .sealed)
      (d : (s.page p).damaged = false) (w : Published n p s v) (rest : Chain n v u) : Chain n s u
  /-- The oldest pending page is SEALED and damaged: it is discarded, and the chain goes on. -/
  | discard (s v u : State) (p : PageId) (h : OldestPending s n p) (c : (s.page p).stage = .sealed)
      (d : (s.page p).damaged = true) (w : Discarded n p s v) (rest : Chain n v u) : Chain n s u

/-- What a closing boundary that closes a frame has done before it seeks a new fill page: the frame is numbered and counted,
the fill page o carries it in CLOSING, or has sealed with no write in flight and the chain has run (R43, R46 steps 1, 2). -/
def FrameClosed (n : StreamId) (o : PageId) (s w : State) : Prop :=
  ∃ v, v = (s.modStream n fun st =>
        { st with parity := false, nextFrame := st.nextFrame + 1, closed := st.closed + 1, fillPage := none }).modPage o
      (fun pg =>
        { pg with frame := some (s.stream n).nextFrame, stage := if pg.writeCount = 0 then .sealed else .closing })
    ∧ ((s.page o).writeCount ≠ 0 → w = v) ∧ ((s.page o).writeCount = 0 → Chain n v w)

/-! ### Counts and completions (R29, R30, R35, R126) -/

/-- A count of page q has been lowered by 1, and the page examined: a CLOSING page seals at write count 0 and the chain
runs; a RETIRING page is FREE when both counts are 0, and where it was the last one of a STOPPING stream the stream is OFF
and STREAM_STOPPED raised (R29, R30, R32, R93). -/
def CountLowered (k : Access) (q : PageId) (s u : State) : Prop :=
  ∃ (v : State) (n : StreamId), (s.page q).owner = some n
    ∧ v = s.modPage q (fun pg =>
        { pg with
          writeCount := if k = .write then pg.writeCount - 1 else pg.writeCount,
          readCount := if k = .read then pg.readCount - 1 else pg.readCount })
    ∧ ((s.page q).stage = .closing → k = .write → (v.page q).writeCount = 0 →
        Chain n (v.modPage q fun pg => { pg with stage := .sealed }) u)
    ∧ ((s.page q).stage = .retiring → (v.page q).writeCount = 0 → (v.page q).readCount = 0 →
        ∃ w, w = v.modPage q (fun pg => { pg with stage := .free })
          ∧ ((s.stream n).state = .stopping ∧ (∀ p ∈ (s.stream n).ring, (w.page p).stage = .free) →
              RaisedOnly { kind := .streamStopped, stream := some n }
                (w.modStream n fun st => { st with state := .off }) u)
          ∧ ((s.stream n).state ≠ .stopping ∨ (∃ p ∈ (s.stream n).ring, (w.page p).stage ≠ .free) → u = w))
    ∧ (¬ ((s.page q).stage = .closing ∧ k = .write ∧ (v.page q).writeCount = 0) →
        ¬ ((s.page q).stage = .retiring ∧ (v.page q).writeCount = 0 ∧ (v.page q).readCount = 0) → u = v)

/-- A completion of a piece of this access and length is OK: its status is, and a READ's beats are enough (R126, R141). -/
def CompletesOk (c : Completion) (k : Access) (length : Nat) : Prop :=
  c.status = .ok ∧ (k = .write ∨ length ≤ c.beats.length)

/-- The failure of a piece of this entry at this address has been dealt with: counted at its port, DOWNSTREAM_FAULT raised,
and a WRITE's FILLING or CLOSING page marked damaged (R126, R35). -/
def FailureReported (en : Entry) (addr : Addr) (s u : State) : Prop :=
  ∃ v, RaisedOnly
      { kind := .downstreamFault, port := some en.port, tag := some en.tag, addr := some addr,
        stream := en.target.map (·.stream), page := en.target.map (·.page),
        slot := en.target.bind fun g => match g.role with
          | .producer => none
          | .slot x => some x }
      (s.modPort en.port fun po => { po with faults := po.faults + 1 }) v
    ∧ (en.kind = .read ∨ en.target = none → u = v)
    ∧ ∀ g, en.kind = .write → en.target = some g →
        u = v.modPage g.page fun pg =>
          { pg with damaged := if pg.stage = .filling ∨ pg.stage = .closing then true else pg.damaged }

/-! ### Ports and grants (R128, R129, R139, R140, R144) -/

/-- Entry e is the deliverable entry of port p that is oldest in acceptance order (R128, R129). -/
def OldestDeliverable (s : State) (p : PortId) (e : EntryId) : Prop :=
  ∃ older younger, (s.port p).order = older ++ e :: younger ∧ Deliverable s older e
    ∧ ∀ front d back, older = front ++ d :: back → ¬ Deliverable s front d

/-- Port p presents what it presented before; where that was nothing, its oldest deliverable entry of t, if any (R129). -/
def Presents (was : Option EntryId) (p : PortId) (t : State) : Prop :=
  (was ≠ none → (t.port p).presented = was)
    ∧ (was = none → ∀ e : EntryId, (t.port p).presented = some e ↔ OldestDeliverable t p e)

/-- One grant has gone to port g: its head piece has left the queue and gone out on the link, its WRITE data given up; its
credit, after a reload of every port's where it had none, is spent by 1; the pointer stands behind it, and one indication
is used (R124, R139, R140, R144, R183). -/
def GrantTo (g : PortId) (s u : State) : Prop :=
  ∃ (r : PieceRef) (rest : List PieceRef) (pc : Piece),
    (s.port g).queue = r :: rest ∧ (s.entry r.entry).piece r.second = some pc
    ∧ u.port g =
      { s.port g with
        queue := rest,
        credit := (if (s.port g).credit = 0 then (s.port g).weight else (s.port g).credit) - 1 }
    ∧ (∀ p, p ≠ g → u.port p =
        { s.port p with credit := if (s.port g).credit = 0 then (s.port p).weight else (s.port p).credit })
    ∧ u.pointer = g + 1 ∧ u.indications = s.indications - 1
    ∧ u.entry r.entry =
      { s.entry r.entry with
        state := if (s.entry r.entry).state = .queued then .issued else (s.entry r.entry).state,
        pieces := (s.entry r.entry).pieces.modify r.second.toNat
          fun pc => { pc with status := .outstanding, data := [] } }
    ∧ OtherEntries r.entry s u
    ∧ u.links =
      { s.links with
        sentPieces := s.links.sentPieces ++
          [{ kind := if (s.entry r.entry).kind = .write then 1 else 0, addr := pc.addr,
             len := BitVec.ofNat 4 (pc.length - 1), downTag := BitVec.ofNat 7 (2 * r.entry.val + r.second.toNat),
             tag := (s.entry r.entry).tag, beats := pc.data }] }
    ∧ u.datapath = s.datapath ∧ u.stray = s.stray ∧ SameRotation s u ∧ SameEvents s u ∧ SamePort s u

/-- k grants in a row have gone to port g. -/
def GrantsTo : Nat → PortId → State → State → Prop
  | 0, _, s, u => u = s
  | k + 1, g, s, u => ∃ v, GrantTo g s v ∧ GrantsTo k g v u

/-- Every request that waits on its link has been tested again: those that could be accepted have been, one after another,
until none can be (R101, R122, R138). The order among ports is left free here; the model's is log 23. -/
inductive Retested : State → State → Prop
  /-- No waiting request can be accepted. -/
  | done (s : State) (h : ∀ (p : PortId) (r : Request), s.links.waiting.get p = some r → NoRoom s p r) : Retested s s
  /-- The request that waits at port p can be accepted, and is. -/
  | accept (s u : State) (p : PortId) (r : Request) (h : s.links.waiting.get p = some r) (k : ¬ NoRoom s p r)
      (rest : Retested (acceptHead p r s) u) : Retested s u

/-! ### Data and record layouts (R14, R183, R184, R185, R187, R188) -/

/-- A BLANK beat: the fill value four times, most significant byte first (R14). -/
def BlankBeat (v : Word32) (b : BeatData) : Prop :=
  b.toList = bigEndian 4 v.toNat ++ bigEndian 4 v.toNat ++ bigEndian 4 v.toNat ++ bigEndian 4 v.toNat

/-- The beats a request is taken with: a READ's none; a WRITE's as many as its length declares, those that arrived and
behind them beats of zeros with no byte enabled (R184). -/
def TakenBeats (r : Request) (data : List WriteBeat) : Prop :=
  (r.kind = .read → data = [])
    ∧ (r.kind = .write → data.length = r.len.toNat + 1 ∧ ∀ k, k < r.len.toNat + 1 →
        data[k]? = some (r.beats.getD k { data := Vector.replicate 16 0, enables := 0 }))

/-- The block of a slot stands at offset k of a response, item by item (R176, R185, R187). -/
def SlotBlockAt (k : Nat) (r : List Byte) (sl : Slot) : Prop :=
  r[k]? = some (if sl.enabled = false then 0 else if sl.held = none then 1 else 2)
    ∧ r[k + 1]? = some (BitVec.ofNat 8 sl.tag.toNat)
    ∧ (r.drop (k + 2)).take 5 = bigEndian 5 sl.base.toNat
    ∧ (r.drop (k + 7)).take 2 = bigEndian 2 sl.lines.toNat
    ∧ (r.drop (k + 9)).take 2 = bigEndian 2 sl.lineLength.toNat
    ∧ (r.drop (k + 11)).take 2 = bigEndian 2 sl.cropLine.toNat
    ∧ (r.drop (k + 13)).take 2 = bigEndian 2 sl.cropByte.toNat
    ∧ r[k + 15]? = some sl.staleThreshold
    ∧ r[k + 16]? = some (if sl.freeze = true then 1 else 0)
    ∧ r[k + 17]? = some (sl.held.elim 0xFF fun p => BitVec.ofNat 8 p.val)
    ∧ r[k + 18]? = some (if sl.lastTaken = none then 0 else 1)
    ∧ (r.drop (k + 19)).take 4 = bigEndian 4 (sl.lastTaken.getD 0).toNat
    ∧ r[k + 23]? = some (BitVec.ofNat 8 sl.repeatsInRow)
    ∧ r[k + 24]? = some (if sl.staleRaised = true then 1 else 0)

/-- The code of an event kind (R188). -/
def KindCode (k : EventKind) (b : Byte) : Prop :=
  match k with
  | .frameDropped => b = 1
  | .frameDamaged => b = 2
  | .producerStarved => b = 3
  | .producerResumed => b = 4
  | .consumerStale => b = 5
  | .requestRefused => b = 6
  | .downstreamFault => b = 7
  | .streamStopped => b = 8
  | .datapathQuiet => b = 9
  | .eventsLost => b = 10

/-- The code of a refusal reason (R183, R188). -/
def ReasonCode (r : Reason) (b : Nat) : Prop :=
  match r with
  | .range => b = 1
  | .align => b = 2
  | .role => b = 3
  | .privatePage => b = 4
  | .idle => b = 5
  | .stopping => b = 6
  | .reset => b = 7

/-- The 20 bytes b are the event record r: an absent one-byte field 0xFF, an absent longer one 0 (R188). -/
def RecordLayout (r : EventRecord) (b : List Byte) : Prop :=
  b.length = 20 ∧ (∃ c : Byte, b[0]? = some c ∧ KindCode r.kind c)
    ∧ b[1]? = some (r.stream.elim 0xFF fun n => BitVec.ofNat 8 n.val)
    ∧ (r.slot = none → b[2]? = some 0xFF) ∧ (r.slot = some .a → b[2]? = some 0) ∧ (r.slot = some .b → b[2]? = some 1)
    ∧ b[3]? = some (r.page.elim 0xFF fun p => BitVec.ofNat 8 p.val)
    ∧ b[4]? = some (r.port.elim 0xFF fun p => BitVec.ofNat 8 p.val)
    ∧ b[5]? = some (r.tag.elim 0xFF fun t => BitVec.ofNat 8 t.toNat)
    ∧ (r.reason = none → b[6]? = some 0xFF)
    ∧ (∀ why, r.reason = some why → ∃ c : Byte, b[6]? = some c ∧ ReasonCode why c.toNat)
    ∧ (b.drop 7).take 4 = bigEndian 4 (r.frame.getD 0).toNat
    ∧ (b.drop 11).take 5 = bigEndian 5 (r.addr.getD 0).toNat
    ∧ (b.drop 16).take 4 = bigEndian 4 (r.count.getD 0).toNat

/-- A response as the link of its port carries it: status 0 DONE, 1 REFUSED, 2 FAULT; a reason's code with REFUSED, else 0
(R100, R183). -/
def ResponseSent (p : PortId) (id : BitVec 4) (resp : Response) (m : ResponseMessage) : Prop :=
  m.port = p ∧ m.id = id ∧ m.beats = resp.data
    ∧ (resp.status = .done → m.status = 0) ∧ (resp.status = .refused → m.status = 1)
    ∧ (resp.status = .fault → m.status = 2)
    ∧ (resp.reason = none → m.reason = 0) ∧ ∀ why, resp.reason = some why → ReasonCode why m.reason.toNat

/-! ### Steering -/

/-- A request range lies in no defined aperture (R104). -/
def OutsideApertures (s : State) (r : Request) : Prop :=
  ∀ a ∈ definedApertures s, (reqRange r).overlaps a.range = false

/-- The decision refuses with this reason, with no piece and no page, and raises REQUEST_REFUSED with this stream field. -/
def RefusedWith (d : Decision) (why : Reason) (report : Option EventRecord) : Prop :=
  d.disposition = .refused why ∧ d.target = none ∧ d.pieces = []
    ∧ d.prepared = some { status := .refused, reason := some why, data := [] } ∧ d.report = report

/-- The decision directs the request to a page, in one or two pieces (R111). -/
def DirectedTo (d : Decision) (t : Target) : Prop :=
  d.disposition = .aperture ∧ d.target = some t ∧ d.prepared = none ∧ d.report = none
    ∧ 1 ≤ d.pieces.length ∧ d.pieces.length ≤ 2

/-- The decision answers DONE inside the part with these beats (R112). -/
def AnsweredWith (d : Decision) (disposition : Disposition) (data : List BeatData) : Prop :=
  d.disposition = disposition ∧ d.target = none ∧ d.pieces = [] ∧ d.report = none
    ∧ d.prepared = some { status := .done, reason := none, data := data }

/-! ## All of them -/

/-- The laws of rings, stream states, fill pages, ready lists, holders, stages and counts. -/
def PoolLaw (s : State) : Prop :=
  RingLaw s ∧ LifecycleLaw s ∧ FillLaw s ∧ ReadyLaw s ∧ HolderLaw s ∧ StageLaw s ∧ CountLaw s

/-- A safe state: every law above holds but `OrderLaw` and `FramesInOrder`, which claims name beside it. Two clauses rest on
choices of the model: that a FREE entry is blank (`EntryLaw`, log 11), and that no request which could be accepted is left
waiting (`WaitingLaw`, logs 5 and 23). -/
def Safe (s : State) : Prop :=
  EventQueueLaw s ∧ ArbiterLaw s ∧ ConfigLaw s ∧ RangesLaw s ∧ GeometryLaw s ∧ PoolLaw s ∧ TableLaw s ∧ QuiesceLaw s
    ∧ WaitingLaw s

/-- The states of a run: the part after reset (State.reset, log 9), what a step leaves, and what the arrival of a well-formed
event leaves (logs 1 and 2). -/
inductive Reachable : State → Prop
  | reset : Reachable State.reset
  | arrive (s : State) (i : Instr) (w : i.wellFormed = true) (h : Reachable s) :
      Reachable { s with pending := s.pending ++ [i] }
  | step (s t : State) (h : Reachable s) (e : step s = .next t) : Reachable t

end Sys2Proof.Machine
end

