-- ==== Sys2Proof/Certificates/Slice0/Obligations.lean ====
section
/-! DEFINITION. The statements for the provers. Each says what one rule, or a few, makes of an event: that exec answers a
next state, what that state holds, and what it leaves as it was. -/

section Statements

open Sys2Proof Sys2Proof.Machine

/-! ## The queue of events -/

/-- One step is exec of the event at the front on the state with the queue's rest; with no event waiting the part idles
(the queue is the model's own, log 1). -/
def Obligations.StepTakesTheFrontEvent : Prop :=
  (∀ (c : Instr) (rest : List Instr) (s : State), s.pending = c :: rest → step s = exec c { s with pending := rest })
    ∧ ∀ s : State, s.pending = [] → step s = .next s

/-- Every event of the table has an outcome in every state, a next state, and leaves the queue of events alone. (The queue is
the model's own, log 1; that states no run reaches, events that cannot happen and operands no frame has get an outcome as well
is its choice, logs 13, 14 and 15.) -/
def Obligations.EveryEventCompletes : Prop :=
  ∀ (i : Instr) (s : State), ∃ t, exec i s = .next t ∧ t.pending = s.pending

/-! ## Management frames -/

/-- R169, R164: byte k of what a frame shifts out is byte k of the response buffer as the frame found it, and 0x00 behind its
end, each byte most significant bit first; the buffer changes only at the end of a frame of at least one whole byte, or at a
pin reset; a frame of no whole byte drives the first bit and leaves the buffer. (The record links.mdoBits of what went out is
the model's own, log 6; that a frame is one event, and what is recorded of a partial byte, is log 7.) -/
def Obligations.FrameShiftsOutTheOldResponse : Prop :=
  (∀ (i : Instr) (bytes : List Byte) (bits : List Bool) (s : State),
      frameOf i = some (bytes, bits) → bytes ≠ [] → PortReady s →
      ∃ t u response, exec i s = .next u ∧ (u = t ∨ Retested t u) ∧ FrameTaken bytes response s t
        ∧ u.response = response ∧ u.rx = t.rx ∧ u.mdo = t.mdo ∧ u.links.mdoBits = t.links.mdoBits)
    ∧ (∀ (bits : List Bool) (s : State), PortReady s →
      ∃ t, exec (.discardedFrame bits) s = .next t ∧ t.response = s.response ∧ t.rx.bits = [] ∧ t.mdo = .notDriven
        ∧ t.links = { s.links with mdoBits := s.links.mdoBits ++ [[(s.response.getD 0 0).getMsbD 0]] })
    ∧ ∀ (i : Instr) (s : State), frameOf i = none → i ≠ .pinReset →
      ∃ t, exec i s = .next t ∧ t.response = s.response ∧ t.links.mdoBits = s.links.mdoBits

/-- R172, R168: a command with any result but OK changes no table, flag, queue, counter or line, and its response is the
result code alone. -/
def Obligations.RefusedCommandsChangeNothing : Prop :=
  ∀ (i : Instr) (bytes : List Byte) (bits : List Bool) (s : State),
    frameOf i = some (bytes, bits) → bytes ≠ [] → PortReady s →
    ∃ t, exec i s = .next t ∧ (t.response.head? ≠ some 0x00 → ∃ code, RefusedBy i code s t)

/-- R182: while RESETN is low no strobe, indication, completion or delivery does anything, and a request only waits on its
link; a frame that the port does not take changes nothing (R165, R182). Where the request waits is the model's choice
(log 5). -/
def Obligations.NothingHappensUnderPinReset : Prop :=
  (∀ s : State, s.resetn = false →
      (∀ n, exec (.boundaryEvent n) s = .next s) ∧ (∀ n x, exec (.takeEvent n x) s = .next s)
        ∧ (∀ urg, exec (.indication urg) s = .next s) ∧ (∀ c, exec (.downstreamCompletion c) s = .next s)
        ∧ (∀ p, exec (.delivery p) s = .next s)
        ∧ ∀ p r urg, ∃ t, exec (.acceptance p r urg) s = .next t ∧ SameRotation s t ∧ SameTraffic s t ∧ SameEvents s t
            ∧ SamePort s t ∧ t.links.urg = s.links.urg ∧ t.links.waiting.get p ≠ none)
    ∧ ∀ (i : Instr) (bytes : List Byte) (bits : List Bool) (s : State), frameOf i = some (bytes, bits) → ¬ PortReady s →
      exec i s = .next s

/-! ## Encodings -/

/-- R164, R166, R171, R186: the frame of a well-formed event decodes to that event; every run of whole bytes with fewer
than eight bits behind it decodes to a well-formed event whose frame it is; and the receiver assembles exactly those bytes
and those bits from the bits that travel, most significant first. -/
def Obligations.FramesAndCommandsCorrespond : Prop :=
  (∀ (i : Instr) (bytes : List Byte) (bits : List Bool), i.wellFormed = true → frameOf i = some (bytes, bits) →
      decodeFrame bytes bits = i)
    ∧ (∀ (bytes : List Byte) (bits : List Bool), bits.length < 8 →
      (decodeFrame bytes bits).wellFormed = true ∧ frameOf (decodeFrame bytes bits) = some (bytes, bits))
    ∧ ∀ (bytes : List Byte) (bits : List Bool), bits.length < 8 → receiveBits (serialBits bytes bits) = (bytes, bits)

/-! ## Pin reset -/

/-- R2, R4, R20, R121, R133, R135, R137, R149, R160, R161, R170, R182: what a pin reset leaves, item by item. The links and
the queue of events are not the part's and stay (log 19). -/
def Obligations.PinResetValues : Prop :=
  ∀ s : State, ∃ t, exec .pinReset s = .next t
    ∧ (∀ n, (t.stream n).state = .undefined ∧ (t.stream n).base = 0 ∧ (t.stream n).lines = 0
        ∧ (t.stream n).lineLength = 0 ∧ (t.stream n).stride = 0 ∧ (t.stream n).transform = .linear
        ∧ (t.stream n).producerTag = 0 ∧ (t.stream n).takePolicy = .newest ∧ (t.stream n).poolPolicy = .recycle
        ∧ (t.stream n).fill = 0 ∧ (t.stream n).freeze = false ∧ (t.stream n).ring = [] ∧ (t.stream n).ready = []
        ∧ (t.stream n).fillPage = none ∧ (t.stream n).starved = false ∧ (t.stream n).starvedFrames = 0
        ∧ (t.stream n).parity = false ∧ (t.stream n).nextFrame = 0 ∧ (t.stream n).closed = 0
        ∧ (t.stream n).heldFrames = 0 ∧ (t.stream n).sunk = 0 ∧ (t.stream n).published = 0 ∧ (t.stream n).damaged = 0
        ∧ (t.stream n).dropped = 0)
    ∧ (∀ n x, t.slot n x =
        { enabled := false, tag := 0, base := 0, lines := 0, lineLength := 0, cropLine := 0, cropByte := 0,
          staleThreshold := 0, freeze := false, held := none, lastTaken := none, repeatsInRow := 0, staleRaised := false,
          takes := 0, repeats := 0, frozenTakes := 0 })
    ∧ (∀ p, t.page p =
        { stage := .unassigned, owner := none, base := 0, size := 0, frame := none, writeCount := 0, readCount := 0,
          holdA := false, holdB := false, damaged := false })
    ∧ (∀ e, (t.entry e).state = .free)
    ∧ (∀ p, t.port p =
        { order := [], queue := [], presented := none, weight := 1, credit := 1, accepted := 0, refused := 0,
          faults := 0 })
    ∧ t.pointer = 0 ∧ t.indications = 0 ∧ t.datapath = .normal ∧ t.stray = 0
    ∧ t.events = [] ∧ t.lost = 0 ∧ t.watermark = 1 ∧ (∀ k, t.kindEnabled k = true) ∧ t.attn = false
    ∧ t.response = [0x00, 0x24, 0x08, 0x01, 0x00, 0x00, 0x00] ∧ t.mdo = .driven false ∧ t.resetn = false
    ∧ t.links = s.links ∧ t.pending = s.pending

/-- R182, R165, R102: the part begins to work when RESETN rises; with chip select low it drives MDO low and waits for chip select
to rise, which ends no frame. Requests that waited on the links are tested afresh behind the rise (log 23). -/
def Obligations.PinResetIsLeft : Prop :=
  (∀ (low : Bool) (s : State), s.resetn = false →
      ∃ t u, exec (.resetnRise low) s = .next u ∧ Retested t u ∧ t.resetn = true ∧ t.awaitRise = low
        ∧ t.mdo = (if low then .driven false else .notDriven) ∧ t.response = s.response ∧ t.rx = s.rx
        ∧ SameRotation s t ∧ SameTraffic s t ∧ SameEvents s t ∧ t.links = s.links ∧ t.pending = s.pending)
    ∧ ∀ s : State, s.resetn = true → s.awaitRise = true →
      ∃ t, exec .chipSelectRiseAfterPinReset s = .next t ∧ PortReady t ∧ t.mdo = .notDriven ∧ t.response = s.response
        ∧ t.rx = s.rx ∧ SameRotation s t ∧ SameTraffic s t ∧ SameEvents s t ∧ t.links = s.links ∧ t.pending = s.pending

/-! ## Frames without a command, identity -/

/-- R165, R166: an undefined code answers UNKNOWN, too few arguments SHORT, and neither changes anything else; a frame of no
whole byte leaves even the response buffer. -/
def Obligations.FramesWithoutACommand : Prop :=
  (∀ (code : Byte) (f : FrameTail) (s : State), PortReady s → commandArgs code = none →
      ∃ t, exec (.unknownCommand code f) s = .next t ∧ RefusedBy (.unknownCommand code f) 0x07 s t)
    ∧ (∀ (code : Byte) (k : Nat) (f : FrameTail) (s : State), PortReady s → commandArgs code = some k →
        f.extra.length < k → ∃ t, exec (.shortFrame code f) s = .next t ∧ RefusedBy (.shortFrame code f) 0x06 s t)
    ∧ ∀ (bits : List Bool) (s : State), PortReady s →
      ∃ t, exec (.discardedFrame bits) s = .next t ∧ t.response = s.response ∧ SameRotation s t ∧ SameTraffic s t
        ∧ SameEvents s t ∧ t.pending = s.pending ∧ PortReady t

/-- R173, R187: NOP answers the part code, the revision, the datapath state, the number of records and the level of ATTN,
and changes no state. -/
def Obligations.NopReportsIdentityAndStatus : Prop :=
  ∀ (f : FrameTail) (s : State), PortReady s →
    ∃ t, exec (.nop f) s = .next t
      ∧ Framed (.nop f) [0x00, 0x24, 0x08, 0x01, if s.datapath = .quiescing then 0x01 else 0x00,
          BitVec.ofNat 8 s.events.length, if s.attn then 0x01 else 0x00] s t
      ∧ SameRotation s t ∧ SameTraffic s t ∧ SameEvents s t

/-! ## Streams and slots -/

/-- R6, R7: SET-STREAM is BAD_ARG for an argument out of range, BAD_STATE on a RUNNING or STOPPING stream, OVERLAP where the
new aperture meets another defined aperture or an assigned page (R8), and else writes the configuration fields, makes the
stream OFF and leaves everything else. Waiting
requests are tested again behind a command that is taken (R122, log 23). -/
def Obligations.SetStreamDecides : Prop :=
  (∀ (a : SetStreamArgs) (f : FrameTail) (s : State), PortReady s →
      7 < a.stream.toNat ∨ a.base.toNat % 4096 ≠ 0 ∨ a.lines.toNat = 0 ∨ 4096 < a.lines.toNat
        ∨ a.lineLength.toNat < 256 ∨ 16384 < a.lineLength.toNat ∨ a.lineLength.toNat % 16 ≠ 0
        ∨ a.stride.toNat < 256 ∨ 65536 < a.stride.toNat ∨ a.stride.toNat % 16 ≠ 0
        ∨ 2 < a.transform.toNat ∨ 1 < a.takePolicy.toNat ∨ 1 < a.poolPolicy.toNat ∨ 63 < a.producerTag.toNat
        ∨ 0xFFFFFFFFFF < a.base.toNat + a.lines.toNat * a.lineLength.toNat - 1 →
      ∃ t, exec (.setStream a f) s = .next t ∧ RefusedBy (.setStream a f) 0x03 s t)
    ∧ ∀ (n : StreamId) (a : SetStreamArgs) (t1 : Transform) (t2 : TakePolicy) (t3 : PoolPolicy) (f : FrameTail) (s : State),
      PortReady s → a.stream.toNat = n.val → a.base.toNat % 4096 = 0 →
      1 ≤ a.lines.toNat → a.lines.toNat ≤ 4096 →
      256 ≤ a.lineLength.toNat → a.lineLength.toNat ≤ 16384 → a.lineLength.toNat % 16 = 0 →
      256 ≤ a.stride.toNat → a.stride.toNat ≤ 65536 → a.stride.toNat % 16 = 0 →
      transformOf a.transform = some t1 → takePolicyOf a.takePolicy = some t2 → poolPolicyOf a.poolPolicy = some t3 →
      a.producerTag.toNat ≤ 63 → a.base.toNat + a.lines.toNat * a.lineLength.toNat - 1 ≤ 0xFFFFFFFFFF →
      ((s.stream n).state = .running ∨ (s.stream n).state = .stopping →
        ∃ t, exec (.setStream a f) s = .next t ∧ RefusedBy (.setStream a f) 0x02 s t)
      ∧ ((s.stream n).state = .undefined ∨ (s.stream n).state = .off →
        ((∃ ap ∈ definedApertures s, ¬ (ap.stream = n ∧ ap.role = .producer)
              ∧ (setStreamRange a).overlaps ap.range = true)
            ∨ (∃ p, (s.page p).stage ≠ .unassigned ∧ (setStreamRange a).overlaps (s.page p).range = true) →
          ∃ t, exec (.setStream a f) s = .next t ∧ RefusedBy (.setStream a f) 0x05 s t)
        ∧ ((∀ ap ∈ definedApertures s, ap.stream = n ∧ ap.role = .producer
              ∨ (setStreamRange a).overlaps ap.range = false) →
          (∀ p, (s.page p).stage ≠ .unassigned → (setStreamRange a).overlaps (s.page p).range = false) →
          ∃ t u, exec (.setStream a f) s = .next u ∧ Retested t u ∧ Framed (.setStream a f) [0x00] s t
            ∧ t.stream n =
              { s.stream n with
                state := .off, base := a.base, lines := a.lines, lineLength := a.lineLength, stride := a.stride,
                transform := t1, producerTag := a.producerTag.setWidth 6, takePolicy := t2, poolPolicy := t3,
                fill := a.fill }
            ∧ OtherStreams n s t ∧ t.pages = s.pages ∧ SameTraffic s t ∧ SameEvents s t))

/-- R86: CLEAR-STREAM is BAD_ARG above stream 7, BAD_STATE unless the stream is OFF with an empty ring, and else makes the
stream UNDEFINED, with the values of R2 and R4 and its counters kept. Waiting
requests are tested again behind a command that is taken (R122, log 23). -/
def Obligations.ClearStreamErasesTheRecord : Prop :=
  (∀ (b : Byte) (f : FrameTail) (s : State), PortReady s → 7 < b.toNat →
      ∃ t, exec (.clearStream b f) s = .next t ∧ RefusedBy (.clearStream b f) 0x03 s t)
    ∧ ∀ (n : StreamId) (b : Byte) (f : FrameTail) (s : State), PortReady s → b.toNat = n.val →
      ((s.stream n).state ≠ .off ∨ (s.stream n).ring ≠ [] →
        ∃ t, exec (.clearStream b f) s = .next t ∧ RefusedBy (.clearStream b f) 0x02 s t)
      ∧ ((s.stream n).state = .off → (s.stream n).ring = [] →
        ∃ t u, exec (.clearStream b f) s = .next u ∧ Retested t u ∧ Framed (.clearStream b f) [0x00] s t
          ∧ (∀ x, t.slot n x =
              { enabled := false, tag := 0, base := 0, lines := 0, lineLength := 0, cropLine := 0, cropByte := 0,
                staleThreshold := 0, freeze := false, held := none, lastTaken := none, repeatsInRow := 0,
                staleRaised := false, takes := (s.slot n x).takes, repeats := (s.slot n x).repeats,
                frozenTakes := (s.slot n x).frozenTakes })
          ∧ t.stream n =
              { state := .undefined, base := 0, lines := 0, lineLength := 0, stride := 0, transform := .linear,
                producerTag := 0, takePolicy := .newest, poolPolicy := .recycle, fill := 0, freeze := false, ring := [],
                ready := [], fillPage := none, starved := false, starvedFrames := 0, parity := false, nextFrame := 0,
                closed := (s.stream n).closed, heldFrames := (s.stream n).heldFrames, sunk := (s.stream n).sunk,
                published := (s.stream n).published, damaged := (s.stream n).damaged, dropped := (s.stream n).dropped,
                slotA := t.slot n .a, slotB := t.slot n .b }
          ∧ OtherStreams n s t ∧ t.pages = s.pages ∧ SameTraffic s t ∧ SameEvents s t)

/-- R9, R10: SET-CONSUMER is BAD_ARG for an argument out of range, with enable off only stream, slot and enable being looked
at, BAD_STATE unless the stream is OFF, OVERLAP where the new aperture meets another defined aperture or an assigned page
(R8), and else writes the slot's configuration with enable on and zeros it with enable off; the slot's run fields, the other
slot and the stream record stay. Waiting
requests are tested again behind a command that is taken (R122, log 23). -/
def Obligations.SetConsumerDecides : Prop :=
  (∀ (a : SetConsumerArgs) (f : FrameTail) (s : State), PortReady s →
      7 < a.stream.toNat ∨ 1 < a.slot.toNat ∨ 1 < a.enable.toNat
        ∨ (a.enable = 0x01
          ∧ (63 < a.tag.toNat ∨ a.base.toNat % 4096 ≠ 0 ∨ a.lines.toNat = 0 ∨ 4096 < a.lines.toNat
            ∨ a.lineLength.toNat < 256 ∨ 16384 < a.lineLength.toNat ∨ a.lineLength.toNat % 16 ≠ 0
            ∨ 8191 < a.cropLine.toNat ∨ 16368 < a.cropByte.toNat ∨ a.cropByte.toNat % 16 ≠ 0
            ∨ 0xFFFFFFFFFF < a.base.toNat + a.lines.toNat * a.lineLength.toNat - 1)) →
      ∃ t, exec (.setConsumer a f) s = .next t ∧ RefusedBy (.setConsumer a f) 0x03 s t)
    ∧ ∀ (n : StreamId) (x : SlotId) (a : SetConsumerArgs) (f : FrameTail) (s : State),
      PortReady s → a.stream.toNat = n.val → a.slot = slotByte x →
      (a.enable = 0x01 → a.tag.toNat ≤ 63 → a.base.toNat % 4096 = 0 →
        1 ≤ a.lines.toNat → a.lines.toNat ≤ 4096 →
        256 ≤ a.lineLength.toNat → a.lineLength.toNat ≤ 16384 → a.lineLength.toNat % 16 = 0 →
        a.cropLine.toNat ≤ 8191 → a.cropByte.toNat ≤ 16368 → a.cropByte.toNat % 16 = 0 →
        a.base.toNat + a.lines.toNat * a.lineLength.toNat - 1 ≤ 0xFFFFFFFFFF →
        ((s.stream n).state ≠ .off →
          ∃ t, exec (.setConsumer a f) s = .next t ∧ RefusedBy (.setConsumer a f) 0x02 s t)
        ∧ ((s.stream n).state = .off →
          ((∃ ap ∈ definedApertures s, ¬ (ap.stream = n ∧ ap.role = .slot x)
                ∧ (setConsumerRange a).overlaps ap.range = true)
              ∨ (∃ p, (s.page p).stage ≠ .unassigned ∧ (setConsumerRange a).overlaps (s.page p).range = true) →
            ∃ t, exec (.setConsumer a f) s = .next t ∧ RefusedBy (.setConsumer a f) 0x05 s t)
          ∧ ((∀ ap ∈ definedApertures s, ap.stream = n ∧ ap.role = .slot x
                ∨ (setConsumerRange a).overlaps ap.range = false) →
            (∀ p, (s.page p).stage ≠ .unassigned → (setConsumerRange a).overlaps (s.page p).range = false) →
            ∃ t u, exec (.setConsumer a f) s = .next u ∧ Retested t u ∧ Framed (.setConsumer a f) [0x00] s t
              ∧ t.slot n x =
                { s.slot n x with
                  enabled := true, tag := a.tag.setWidth 6, base := a.base, lines := a.lines, lineLength := a.lineLength,
                  cropLine := a.cropLine, cropByte := a.cropByte, staleThreshold := a.staleThreshold }
              ∧ t.stream n = (s.stream n).modSlot x (fun _ => t.slot n x)
              ∧ OtherStreams n s t ∧ t.pages = s.pages ∧ SameTraffic s t ∧ SameEvents s t)))
      ∧ (a.enable = 0x00 →
        ((s.stream n).state ≠ .off →
          ∃ t, exec (.setConsumer a f) s = .next t ∧ RefusedBy (.setConsumer a f) 0x02 s t)
        ∧ ((s.stream n).state = .off →
          ∃ t u, exec (.setConsumer a f) s = .next u ∧ Retested t u ∧ Framed (.setConsumer a f) [0x00] s t
            ∧ t.slot n x =
              { s.slot n x with
                enabled := false, tag := 0, base := 0, lines := 0, lineLength := 0, cropLine := 0, cropByte := 0,
                staleThreshold := 0 }
            ∧ t.stream n = (s.stream n).modSlot x (fun _ => t.slot n x)
            ∧ OtherStreams n s t ∧ t.pages = s.pages ∧ SameTraffic s t ∧ SameEvents s t))

/-- R11: FREEZE writes one freeze flag in OFF, RUNNING and STOPPING, is BAD_STATE on an UNDEFINED stream, and is BAD_ARG for
a stream, target or value out of range. -/
def Obligations.FreezeWritesOneFlag : Prop :=
  (∀ (b target on : Byte) (f : FrameTail) (s : State), PortReady s →
      7 < b.toNat ∨ 2 < target.toNat ∨ 1 < on.toNat →
      ∃ t, exec (.freeze b target on f) s = .next t ∧ RefusedBy (.freeze b target on f) 0x03 s t)
    ∧ ∀ (n : StreamId) (b target : Byte) (v : Bool) (f : FrameTail) (s : State), PortReady s → b.toNat = n.val →
      (target.toNat ≤ 2 → (s.stream n).state = .undefined →
        ∃ t, exec (.freeze b target (flagByte v) f) s = .next t ∧ RefusedBy (.freeze b target (flagByte v) f) 0x02 s t)
      ∧ ((s.stream n).state ≠ .undefined →
        (target = 0x00 → ∃ t, exec (.freeze b target (flagByte v) f) s = .next t
          ∧ Framed (.freeze b target (flagByte v) f) [0x00] s t
          ∧ t.stream n = { s.stream n with freeze := v }
          ∧ OtherStreams n s t ∧ t.pages = s.pages ∧ SameTraffic s t ∧ SameEvents s t)
        ∧ ∀ x : SlotId, target = slotByte x + 1 → ∃ t, exec (.freeze b target (flagByte v) f) s = .next t
          ∧ Framed (.freeze b target (flagByte v) f) [0x00] s t
          ∧ t.stream n = (s.stream n).modSlot x (fun _ => { s.slot n x with freeze := v })
          ∧ OtherStreams n s t ∧ t.pages = s.pages ∧ SameTraffic s t ∧ SameEvents s t)

/-! ## Pages -/

/-- R22, R23, R24: ASSIGN-PAGE is BAD_ARG for an argument out of range, BAD_STATE for a page that is not UNASSIGNED, a stream
that is not OFF or a full ring, OVERLAP where the new range meets a defined aperture or an assigned page, and else sets the
descriptor and appends the page to the ring. Waiting
requests are tested again behind a command that is taken (R122, log 23). -/
def Obligations.AssignPageDecides : Prop :=
  (∀ (a : AssignPageArgs) (f : FrameTail) (s : State), PortReady s →
      63 < a.page.toNat ∨ 7 < a.stream.toNat ∨ a.base.toNat % 4096 ≠ 0 ∨ a.size.toNat = 0 ∨ a.size.toNat % 4096 ≠ 0
        ∨ 268435456 < a.size.toNat ∨ 0xFFFFFFFFFF < a.base.toNat + a.size.toNat - 1 →
      ∃ t, exec (.assignPage a f) s = .next t ∧ RefusedBy (.assignPage a f) 0x03 s t)
    ∧ ∀ (p : PageId) (n : StreamId) (a : AssignPageArgs) (f : FrameTail) (s : State),
      PortReady s → a.page.toNat = p.val → a.stream.toNat = n.val → a.base.toNat % 4096 = 0 →
      1 ≤ a.size.toNat → a.size.toNat % 4096 = 0 → a.size.toNat ≤ 268435456 →
      a.base.toNat + a.size.toNat - 1 ≤ 0xFFFFFFFFFF →
      ((s.page p).stage ≠ .unassigned ∨ (s.stream n).state ≠ .off ∨ 8 ≤ (s.stream n).ring.length →
        ∃ t, exec (.assignPage a f) s = .next t ∧ RefusedBy (.assignPage a f) 0x02 s t)
      ∧ ((s.page p).stage = .unassigned → (s.stream n).state = .off → (s.stream n).ring.length < 8 →
        ((∃ ap ∈ definedApertures s, Range.overlaps ⟨a.base.toNat, a.size.toNat⟩ ap.range = true)
            ∨ (∃ q, (s.page q).stage ≠ .unassigned
                ∧ Range.overlaps ⟨a.base.toNat, a.size.toNat⟩ (s.page q).range = true) →
          ∃ t, exec (.assignPage a f) s = .next t ∧ RefusedBy (.assignPage a f) 0x05 s t)
        ∧ ((∀ ap ∈ definedApertures s, Range.overlaps ⟨a.base.toNat, a.size.toNat⟩ ap.range = false) →
          (∀ q, (s.page q).stage ≠ .unassigned →
            Range.overlaps ⟨a.base.toNat, a.size.toNat⟩ (s.page q).range = false) →
          ∃ t u, exec (.assignPage a f) s = .next u ∧ Retested t u ∧ Framed (.assignPage a f) [0x00] s t
            ∧ t.page p =
              { stage := .free, owner := some n, base := a.base, size := a.size, frame := none, writeCount := 0,
                readCount := 0, holdA := false, holdB := false, damaged := false }
            ∧ t.stream n = { s.stream n with ring := (s.stream n).ring ++ [p] }
            ∧ OtherStreams n s t ∧ OtherPages [p] s t ∧ SameTraffic s t ∧ SameEvents s t))

/-- R25: UNASSIGN-PAGE is BAD_ARG above page 63, BAD_STATE for an UNASSIGNED page and for a page of a RUNNING or STOPPING
stream, BUSY for a RETIRING page of an OFF stream, and takes a FREE page of an OFF stream out of its ring. Waiting
requests are tested again behind a command that is taken (R122, log 23). -/
def Obligations.UnassignPageDecides : Prop :=
  (∀ (b : Byte) (f : FrameTail) (s : State), PortReady s → 63 < b.toNat →
      ∃ t, exec (.unassignPage b f) s = .next t ∧ RefusedBy (.unassignPage b f) 0x03 s t)
    ∧ ∀ (p : PageId) (b : Byte) (f : FrameTail) (s : State), PortReady s → b.toNat = p.val →
      ((s.page p).stage = .unassigned →
        ∃ t, exec (.unassignPage b f) s = .next t ∧ RefusedBy (.unassignPage b f) 0x02 s t)
      ∧ ∀ n : StreamId, (s.page p).stage ≠ .unassigned → (s.page p).owner = some n →
        ((s.stream n).state = .running ∨ (s.stream n).state = .stopping →
          ∃ t, exec (.unassignPage b f) s = .next t ∧ RefusedBy (.unassignPage b f) 0x02 s t)
        ∧ ((s.stream n).state = .off → (s.page p).stage = .retiring →
          ∃ t, exec (.unassignPage b f) s = .next t ∧ RefusedBy (.unassignPage b f) 0x01 s t)
        ∧ ((s.stream n).state = .off → (s.page p).stage = .free →
          ∃ t u, exec (.unassignPage b f) s = .next u ∧ Retested t u ∧ Framed (.unassignPage b f) [0x00] s t
            ∧ t.page p =
              { stage := .unassigned, owner := none, base := 0, size := 0, frame := none, writeCount := 0,
                readCount := 0, holdA := false, holdB := false, damaged := false }
            ∧ t.stream n = { s.stream n with ring := (s.stream n).ring.filter (· ≠ p) }
            ∧ OtherStreams n s t ∧ OtherPages [p] s t ∧ SameTraffic s t ∧ SameEvents s t)

/-! ## Lifecycle -/

/-- R87, R88: START-STREAM is checked in the order BAD_ARG, BAD_STATE, BUSY, GEOMETRY, and then makes the stream RUNNING on
the first page of its ring. Waiting
requests are tested again behind a command that is taken (R122, log 23). -/
def Obligations.StartStreamDecides : Prop :=
  (∀ (b : Byte) (f : FrameTail) (s : State), PortReady s → 7 < b.toNat →
      ∃ t, exec (.startStream b f) s = .next t ∧ RefusedBy (.startStream b f) 0x03 s t)
    ∧ ∀ (n : StreamId) (b : Byte) (f : FrameTail) (s : State), PortReady s → b.toNat = n.val →
      ((s.stream n).state ≠ .off →
        ∃ t, exec (.startStream b f) s = .next t ∧ RefusedBy (.startStream b f) 0x02 s t)
      ∧ ((s.stream n).state = .off → (∃ p ∈ (s.stream n).ring, (s.page p).stage ≠ .free) →
        ∃ t, exec (.startStream b f) s = .next t ∧ RefusedBy (.startStream b f) 0x01 s t)
      ∧ ((s.stream n).state = .off → (∀ p ∈ (s.stream n).ring, (s.page p).stage = .free) → ¬ GeometryFits s n →
        ∃ t, exec (.startStream b f) s = .next t ∧ RefusedBy (.startStream b f) 0x04 s t)
      ∧ ∀ (p : PageId) (rest : List PageId), (s.stream n).state = .off → (s.stream n).ring = p :: rest → p ∉ rest →
        (∀ q ∈ (s.stream n).ring, (s.page q).stage = .free) → GeometryFits s n →
        ∃ t u, exec (.startStream b f) s = .next u ∧ Retested t u ∧ Framed (.startStream b f) [0x00] s t
          ∧ t.page p =
            { s.page p with
              stage := .filling, frame := none, writeCount := 0, readCount := 0, holdA := false, holdB := false,
              damaged := false }
          ∧ (∀ q ∈ rest, t.page q = { s.page q with damaged := false }) ∧ OtherPages (p :: rest) s t
          ∧ (∀ x, t.slot n x =
              { s.slot n x with held := none, lastTaken := none, repeatsInRow := 0, staleRaised := false })
          ∧ t.stream n =
            { s.stream n with
              state := .running, nextFrame := 0, parity := false, starved := false, starvedFrames := 0, ready := [],
              fillPage := some p, slotA := t.slot n .a, slotB := t.slot n .b }
          ∧ OtherStreams n s t ∧ SameTraffic s t ∧ SameEvents s t

/-- R90, R91, R93: STOP-STREAM releases the pages of a RUNNING stream; with a ring page left in flight the stream is
STOPPING, else OFF with STREAM_STOPPED raised; on an OFF or STOPPING stream it does nothing. Waiting
requests are tested again behind a command that is taken (R122, log 23). -/
def Obligations.StopStreamReleases : Prop :=
  (∀ (b : Byte) (f : FrameTail) (s : State), PortReady s → 7 < b.toNat →
      ∃ t, exec (.stopStream b f) s = .next t ∧ RefusedBy (.stopStream b f) 0x03 s t)
    ∧ ∀ (n : StreamId) (b : Byte) (f : FrameTail) (s : State), PortReady s → b.toNat = n.val →
      ((s.stream n).state = .undefined →
        ∃ t, exec (.stopStream b f) s = .next t ∧ RefusedBy (.stopStream b f) 0x02 s t)
      ∧ ((s.stream n).state = .off ∨ (s.stream n).state = .stopping →
        ∃ t u, exec (.stopStream b f) s = .next u ∧ Retested t u ∧ Framed (.stopStream b f) [0x00] s t
          ∧ SameRotation s t ∧ SameTraffic s t ∧ SameEvents s t)
      ∧ ((s.stream n).state = .running →
        ∃ t u, exec (.stopStream b f) s = .next u ∧ Retested t u ∧ Framed (.stopStream b f) [0x00] s t
          ∧ (∀ p ∈ (s.stream n).ring,
              (s.page p).stage = .filling ∨ (s.page p).stage = .closing ∨ (s.page p).stage = .sealed
                ∨ (s.page p).stage = .published →
              t.page p =
                { s.page p with
                  frame := none, holdA := false, holdB := false,
                  stage := if (s.page p).writeCount = 0 ∧ (s.page p).readCount = 0 then .free else .retiring })
          ∧ (∀ p, p ∉ (s.stream n).ring ∨ (s.page p).stage = .unassigned ∨ (s.page p).stage = .free
                ∨ (s.page p).stage = .retiring → t.page p = s.page p)
          ∧ (∀ x, t.slot n x = { s.slot n x with held := none })
          ∧ t.stream n =
            { s.stream n with
              state := (t.stream n).state, fillPage := none, starved := false, starvedFrames := 0, ready := [],
              slotA := t.slot n .a, slotB := t.slot n .b }
          ∧ ((∀ p ∈ (s.stream n).ring, (t.page p).stage = .free) →
              (t.stream n).state = .off
                ∧ Raised { kind := .streamStopped, stream := some n } s t)
          ∧ ((∃ p ∈ (s.stream n).ring, (t.page p).stage ≠ .free) →
              (t.stream n).state = .stopping ∧ t.events = s.events ∧ t.lost = s.lost ∧ t.attn = s.attn)
          ∧ OtherStreams n s t ∧ SameTraffic s t ∧ SameSettings s t)

/-! ## Scheduler and events -/

/-- R146: SET-ARBITER is BAD_ARG when a weight is 0 or above 8, and else sets each weight and each credit to its argument,
leaving the pointer, the queues and the unused indications. -/
def Obligations.SetArbiterReloads : Prop :=
  ∀ (w0 w1 w2 w3 : Byte) (f : FrameTail) (s : State), PortReady s →
    ((∃ w ∈ [w0, w1, w2, w3], w.toNat = 0 ∨ 8 < w.toNat) →
      ∃ t, exec (.setArbiter w0 w1 w2 w3 f) s = .next t ∧ RefusedBy (.setArbiter w0 w1 w2 w3 f) 0x03 s t)
    ∧ ((∀ w ∈ [w0, w1, w2, w3], 1 ≤ w.toNat ∧ w.toNat ≤ 8) →
      ∃ t, exec (.setArbiter w0 w1 w2 w3 f) s = .next t ∧ Framed (.setArbiter w0 w1 w2 w3 f) [0x00] s t
        ∧ t.port 0 = { s.port 0 with weight := w0.toNat, credit := w0.toNat }
        ∧ t.port 1 = { s.port 1 with weight := w1.toNat, credit := w1.toNat }
        ∧ t.port 2 = { s.port 2 with weight := w2.toNat, credit := w2.toNat }
        ∧ t.port 3 = { s.port 3 with weight := w3.toNat, credit := w3.toNat }
        ∧ t.entries = s.entries ∧ t.pointer = s.pointer ∧ t.indications = s.indications ∧ t.datapath = s.datapath
        ∧ t.stray = s.stray ∧ SameRotation s t ∧ SameEvents s t)

/-- R158: SET-EVENTS is BAD_ARG when the watermark is 0 or above 32, and else sets the watermark and every mask flag and
re-evaluates ATTN; records and lost count stay. -/
def Obligations.SetEventsConfigures : Prop :=
  ∀ (w : Byte) (m : Word16) (f : FrameTail) (s : State), PortReady s →
    (w.toNat = 0 ∨ 32 < w.toNat →
      ∃ t, exec (.setEvents w m f) s = .next t ∧ RefusedBy (.setEvents w m f) 0x03 s t)
    ∧ (1 ≤ w.toNat → w.toNat ≤ 32 →
      ∃ t, exec (.setEvents w m f) s = .next t ∧ Framed (.setEvents w m f) [0x00] s t
        ∧ t.watermark = w.toNat
        ∧ (∀ k : EventKind, t.kindEnabled k = if k = .eventsLost then true else m.getLsbD (k.code - 1))
        ∧ t.attn = decide (w.toNat ≤ s.events.length) ∧ t.events = s.events ∧ t.lost = s.lost
        ∧ SameRotation s t ∧ SameTraffic s t)

/-- R155, R156, R157, R175, R188: POP-EVENTS is BAD_ARG outside 1 to 4; else it returns and removes the oldest records, appends
EVENTS_LOST with the lost count when it removed one while that is above 0, and re-evaluates ATTN. -/
def Obligations.PopEventsRemovesTheOldest : Prop :=
  ∀ (b : Byte) (f : FrameTail) (s : State), PortReady s →
    (b.toNat = 0 ∨ 4 < b.toNat →
      ∃ t, exec (.popEvents b f) s = .next t ∧ RefusedBy (.popEvents b f) 0x03 s t)
    ∧ (1 ≤ b.toNat → b.toNat ≤ 4 →
      ∃ (t : State) (records : List (List Byte)), exec (.popEvents b f) s = .next t
        ∧ Framed (.popEvents b f) ([0x00, BitVec.ofNat 8 (min b.toNat s.events.length)] ++ records.flatten) s t
        ∧ List.Forall₂ RecordLayout (s.events.take b.toNat) records
        ∧ (s.events ≠ [] → 0 < s.lost →
            t.events = s.events.drop b.toNat ++ [{ kind := .eventsLost, count := some (BitVec.ofNat 32 s.lost) }]
              ∧ t.lost = 0)
        ∧ (s.events = [] ∨ s.lost = 0 → t.events = s.events.drop b.toNat ∧ t.lost = s.lost)
        ∧ t.attn = decide (s.watermark ≤ t.events.length)
        ∧ SameSettings s t ∧ SameRotation s t ∧ SameTraffic s t)

/-! ## Snapshots -/

/-- R176, R177, R185, R187: READ-STREAM is BAD_ARG above stream 7 and READ-PAGE above page 63; else the response of 100, or 24,
bytes holds the record item by item at its offsets, in the codes of R185, and nothing changes. -/
def Obligations.StreamAndPageSnapshots : Prop :=
  (∀ (b : Byte) (f : FrameTail) (s : State), PortReady s → 7 < b.toNat →
      ∃ t, exec (.readStream b f) s = .next t ∧ RefusedBy (.readStream b f) 0x03 s t)
    ∧ (∀ (n : StreamId) (b : Byte) (f : FrameTail) (s : State), PortReady s → b.toNat = n.val →
      ∃ t r, exec (.readStream b f) s = .next t ∧ Framed (.readStream b f) r s t
        ∧ SameRotation s t ∧ SameTraffic s t ∧ SameEvents s t
        ∧ r.length = 100
        ∧ r.take 2 = [0x00, b]
        ∧ r[2]? = some (match (s.stream n).state with
            | .undefined => (0 : Byte)
            | .off => 1
            | .running => 2
            | .stopping => 3)
        ∧ (r.drop 3).take 5 = bigEndian 5 (s.stream n).base.toNat
        ∧ (r.drop 8).take 2 = bigEndian 2 (s.stream n).lines.toNat
        ∧ (r.drop 10).take 2 = bigEndian 2 (s.stream n).lineLength.toNat
        ∧ (r.drop 12).take 4 = bigEndian 4 (s.stream n).stride.toNat
        ∧ r[16]? = some (match (s.stream n).transform with
            | .linear => (0 : Byte)
            | .vflip => 1
            | .weave => 2)
        ∧ r[17]? = some (BitVec.ofNat 8 (s.stream n).producerTag.toNat)
        ∧ r[18]? = some (if (s.stream n).takePolicy = .newest then 0 else 1)
        ∧ r[19]? = some (if (s.stream n).poolPolicy = .recycle then 0 else 1)
        ∧ (r.drop 20).take 4 = bigEndian 4 (s.stream n).fill.toNat
        ∧ (r.drop 24).take 2 = [if (s.stream n).freeze then 1 else 0, BitVec.ofNat 8 (s.stream n).ring.length]
        ∧ (∀ k, k < 8 → r[26 + k]? = some (((s.stream n).ring[k]?).elim 0xFF fun p => BitVec.ofNat 8 p.val))
        ∧ r[34]? = some (BitVec.ofNat 8 (s.stream n).ready.length)
        ∧ (∀ k, k < 8 → r[35 + k]? = some (((s.stream n).ready[k]?).elim 0xFF fun p => BitVec.ofNat 8 p.val))
        ∧ (r.drop 43).take 3 = [(s.stream n).fillPage.elim 0xFF fun p => BitVec.ofNat 8 p.val,
            if (s.stream n).starved then 1 else 0, if (s.stream n).parity then 1 else 0]
        ∧ (r.drop 46).take 4 = bigEndian 4 (s.stream n).nextFrame.toNat
        ∧ SlotBlockAt 50 r (s.stream n).slotA ∧ SlotBlockAt 75 r (s.stream n).slotB)
    ∧ (∀ (b : Byte) (f : FrameTail) (s : State), PortReady s → 63 < b.toNat →
      ∃ t, exec (.readPage b f) s = .next t ∧ RefusedBy (.readPage b f) 0x03 s t)
    ∧ ∀ (p : PageId) (b : Byte) (f : FrameTail) (s : State), PortReady s → b.toNat = p.val →
      ∃ t r, exec (.readPage b f) s = .next t ∧ Framed (.readPage b f) r s t
        ∧ SameRotation s t ∧ SameTraffic s t ∧ SameEvents s t
        ∧ r.length = 24
        ∧ r.take 2 = [0x00, b]
        ∧ r[2]? = some (match (s.page p).stage with
            | .unassigned => (0 : Byte)
            | .free => 1
            | .filling => 2
            | .closing => 3
            | .sealed => 4
            | .published => 5
            | .retiring => 6)
        ∧ r[3]? = some ((s.page p).owner.elim 0xFF fun n => BitVec.ofNat 8 n.val)
        ∧ (r.drop 4).take 5 = bigEndian 5 (s.page p).base.toNat
        ∧ (r.drop 9).take 4 = bigEndian 4 (s.page p).size.toNat
        ∧ r[13]? = some (if (s.page p).frame = none then 0 else 1)
        ∧ (r.drop 14).take 4 = bigEndian 4 ((s.page p).frame.getD 0).toNat
        ∧ (r.drop 18).take 5 = [BitVec.ofNat 8 (s.page p).writeCount, BitVec.ofNat 8 (s.page p).readCount,
            if (s.page p).holdA then 1 else 0, if (s.page p).holdB then 1 else 0, if (s.page p).damaged then 1 else 0]
        ∧ ((s.page p).owner = none → r[23]? = some 0xFF)
        ∧ ∀ (n : StreamId) (k : Nat), (s.page p).owner = some n → (s.stream n).ring[k]? = some p →
            (∀ j, j < k → (s.stream n).ring[j]? ≠ some p) → r[23]? = some (BitVec.ofNat 8 k)

/-- R162, R178, R187: READ-COUNTERS is BAD_ARG for a selector or a clear flag out of range; else it returns the group's
counters as they stand, and with the clear flag on sets exactly those to 0. -/
def Obligations.ReadCountersSnapshotAndClear : Prop :=
  (∀ (group number slot clear : Byte) (f : FrameTail) (s : State), PortReady s →
      1 < clear.toNat ∨ 3 < group.toNat ∨ (group.toNat ≤ 1 ∧ 7 < number.toNat) ∨ (group.toNat = 1 ∧ 1 < slot.toNat)
        ∨ (group.toNat = 2 ∧ 3 < number.toNat) →
      ∃ t, exec (.readCounters group number slot clear f) s = .next t
        ∧ RefusedBy (.readCounters group number slot clear f) 0x03 s t)
    ∧ ∀ (number slot : Byte) (c : Bool) (f : FrameTail) (s : State), PortReady s →
      (∀ n : StreamId, number.toNat = n.val →
        ∃ t, exec (.readCounters 0x00 number slot (flagByte c) f) s = .next t
          ∧ Framed (.readCounters 0x00 number slot (flagByte c) f)
              ([0x00, 0x00, number] ++ [(s.stream n).closed, (s.stream n).heldFrames, (s.stream n).sunk,
                (s.stream n).published, (s.stream n).damaged, (s.stream n).dropped].flatMap fun c => bigEndian 4 c.toNat) s t
          ∧ t.stream n = (if c then
              { s.stream n with closed := 0, heldFrames := 0, sunk := 0, published := 0, damaged := 0, dropped := 0 }
              else s.stream n)
          ∧ OtherStreams n s t ∧ t.pages = s.pages ∧ SameTraffic s t ∧ SameEvents s t)
      ∧ (∀ (n : StreamId) (x : SlotId), number.toNat = n.val → slot = slotByte x →
        ∃ t, exec (.readCounters 0x01 number slot (flagByte c) f) s = .next t
          ∧ Framed (.readCounters 0x01 number slot (flagByte c) f)
              ([0x00, 0x01, number] ++ [(s.slot n x).takes, (s.slot n x).repeats, (s.slot n x).frozenTakes].flatMap
                fun c => bigEndian 4 c.toNat) s t
          ∧ t.stream n = (if c then
              (s.stream n).modSlot x (fun sl => { sl with takes := 0, repeats := 0, frozenTakes := 0 })
              else s.stream n)
          ∧ OtherStreams n s t ∧ t.pages = s.pages ∧ SameTraffic s t ∧ SameEvents s t)
      ∧ (∀ p : PortId, number.toNat = p.val →
        ∃ t, exec (.readCounters 0x02 number slot (flagByte c) f) s = .next t
          ∧ Framed (.readCounters 0x02 number slot (flagByte c) f)
              ([0x00, 0x02, number] ++ [(s.port p).accepted, (s.port p).refused, (s.port p).faults].flatMap fun c => bigEndian 4 c.toNat)
              s t
          ∧ t.port p = (if c then { s.port p with accepted := 0, refused := 0, faults := 0 } else s.port p)
          ∧ OtherPorts p s t ∧ t.entries = s.entries ∧ t.pointer = s.pointer ∧ t.indications = s.indications
          ∧ t.datapath = s.datapath ∧ t.stray = s.stray ∧ SameRotation s t ∧ SameEvents s t)
      ∧ ∃ t, exec (.readCounters 0x03 number slot (flagByte c) f) s = .next t
          ∧ Framed (.readCounters 0x03 number slot (flagByte c) f) ([0x00, 0x03, number] ++ bigEndian 4 s.stray.toNat) s t
          ∧ t.stray = (if c then 0 else s.stray)
          ∧ t.entries = s.entries ∧ t.ports = s.ports ∧ t.pointer = s.pointer ∧ t.indications = s.indications
          ∧ t.datapath = s.datapath ∧ SameRotation s t ∧ SameEvents s t

/-! ## Datapath reset -/

/-- R179 with R2, R4, R37, R95, R130, R131, R133, R134 and R148: a wrong confirmation is BAD_ARG; else every undelivered
response becomes REFUSED RESET, queued pieces are removed, pages are released with the counts that remain, streams are OFF,
and the datapath is QUIESCING while an entry is left. Waiting
requests are tested again behind a command that is taken (R122, log 23). -/
def Obligations.DatapathResetClearsTraffic : Prop :=
  (∀ (b : Byte) (f : FrameTail) (s : State), PortReady s → b ≠ 0xA5 →
      ∃ t, exec (.datapathReset b f) s = .next t ∧ RefusedBy (.datapathReset b f) 0x03 s t)
    ∧ ∀ (f : FrameTail) (s : State), PortReady s →
      ∃ t u, exec (.datapathReset 0xA5 f) s = .next u ∧ Retested t u ∧ Framed (.datapathReset 0xA5 f) [0x00] s t
        ∧ (∀ e, (s.entry e).undelivered = true →
            (t.entry e).state = .doneWaiting
              ∧ (t.entry e).prepared = some { status := .refused, reason := some .reset, data := [] }
              ∧ (t.entry e).pieces.map (·.status) =
                  (s.entry e).pieces.map (fun pc => if pc.status = .queued then .removed else pc.status)
              ∧ (t.entry e).port = (s.entry e).port ∧ (t.entry e).id = (s.entry e).id
              ∧ (t.entry e).target = (s.entry e).target)
        ∧ (∀ e, (s.entry e).undelivered = false → t.entry e = s.entry e)
        ∧ (∀ p, t.port p = { s.port p with queue := [], presented := (t.port p).presented } ∧ Presents none p t)
        ∧ (∀ n, t.stream n =
            { s.stream n with
              state := if (s.stream n).state = .running ∨ (s.stream n).state = .stopping then .off
                else (s.stream n).state,
              fillPage := none, starved := false, starvedFrames := 0, parity := false, ready := [],
              slotA := { (s.stream n).slotA with held := none }, slotB := { (s.stream n).slotB with held := none } })
        ∧ (∀ p, (t.page p).damaged = false ∧ (t.page p).owner = (s.page p).owner ∧ (t.page p).base = (s.page p).base
            ∧ (t.page p).size = (s.page p).size
            ∧ (t.page p).writeCount = (s.page p).writeCount - loweredAtReset s .write p
            ∧ (t.page p).readCount = (s.page p).readCount - loweredAtReset s .read p
            ∧ ((s.page p).stage = .unassigned ∨ (s.page p).stage = .free → (t.page p).stage = (s.page p).stage)
            ∧ ((s.page p).stage ≠ .unassigned → (s.page p).stage ≠ .free →
                (t.page p).frame = none ∧ (t.page p).holdA = false ∧ (t.page p).holdB = false
                  ∧ (t.page p).stage =
                    if (t.page p).writeCount = 0 ∧ (t.page p).readCount = 0 then .free else .retiring))
        ∧ ((∃ e, (s.entry e).state ≠ .free) →
            t.datapath = .quiescing ∧ t.events = s.events ∧ t.lost = s.lost ∧ t.attn = s.attn)
        ∧ ((∀ e, (s.entry e).state = .free) → t.datapath = .normal ∧ Raised { kind := .datapathQuiet } s t)
        ∧ t.pointer = s.pointer ∧ t.indications = s.indications ∧ t.stray = s.stray ∧ SameSettings s t

/-! ## Boundary events -/

/-- R41, R45, R66: a boundary on a stream that is not RUNNING, and a take on such a stream or on a DISABLED slot, change
nothing; a field boundary (R42) only sets the parity; a closing boundary under producer freeze only numbers and counts the
frame; a take on a frozen slot only counts a frozen take. Waiting
requests are tested again behind a boundary that is taken (R122, log 23). -/
def Obligations.StrobesIgnoredHeldOrFrozen : Prop :=
  (∀ (n : StreamId) (s : State), (s.stream n).state ≠ .running → exec (.boundaryEvent n) s = .next s)
    ∧ (∀ (n : StreamId) (x : SlotId) (s : State), (s.stream n).state ≠ .running ∨ (s.slot n x).enabled = false →
      exec (.takeEvent n x) s = .next s)
    ∧ (∀ (n : StreamId) (s : State), s.resetn = true → (s.stream n).state = .running → (s.stream n).transform = .weave →
      (s.stream n).parity = false →
      ∃ t u, exec (.boundaryEvent n) s = .next u ∧ Retested t u ∧ t.stream n = { s.stream n with parity := true }
        ∧ OtherStreams n s t ∧ t.pages = s.pages ∧ SameEvents s t ∧ StrobeFrame s t)
    ∧ (∀ (n : StreamId) (s : State), Closing s n → (s.stream n).starved = false → (s.stream n).freeze = true →
      ∃ t u, exec (.boundaryEvent n) s = .next u ∧ Retested t u
        ∧ t.stream n =
          { s.stream n with
            parity := false, nextFrame := (s.stream n).nextFrame + 1, closed := (s.stream n).closed + 1,
            heldFrames := (s.stream n).heldFrames + 1 }
        ∧ OtherStreams n s t ∧ t.pages = s.pages ∧ SameEvents s t ∧ StrobeFrame s t)
    ∧ ∀ (n : StreamId) (x : SlotId) (s : State), s.resetn = true → (s.stream n).state = .running →
      (s.slot n x).enabled = true → (s.slot n x).freeze = true →
      ∃ t, exec (.takeEvent n x) s = .next t
        ∧ t.stream n = (s.stream n).modSlot x (fun sl => { sl with frozenTakes := sl.frozenTakes + 1 })
        ∧ OtherStreams n s t ∧ t.pages = s.pages ∧ SameEvents s t ∧ StrobeFrame s t

/-- R50, R51, R48: a closing boundary on a starved stream sinks the frame; with no page to be had it does no more; with a FREE
ring page the stream resumes on the first one, and else under RECYCLE on the ready page that R48 chooses, with FRAME_DROPPED
before it; PRODUCER_RESUMED carries the starved-frame count. Waiting requests are tested again behind it (R122, log 23). -/
def Obligations.SunkFrameAndResumption : Prop :=
  ∀ (n : StreamId) (s : State), Closing s n → (s.stream n).starved = true →
    (NoFillPage s n →
      ∃ t u, exec (.boundaryEvent n) s = .next u ∧ Retested t u
        ∧ t.stream n =
          { s.stream n with
            parity := false, nextFrame := (s.stream n).nextFrame + 1, closed := (s.stream n).closed + 1,
            sunk := (s.stream n).sunk + 1, starvedFrames := min ((s.stream n).starvedFrames + 1) 0xFFFFFFFF }
        ∧ OtherStreams n s t ∧ t.pages = s.pages ∧ SameEvents s t ∧ StrobeFrame s t)
    ∧ (∀ p : PageId, FirstFree s n p →
      ∃ t u, exec (.boundaryEvent n) s = .next u ∧ Retested t u
        ∧ t.stream n =
          { s.stream n with
            parity := false, nextFrame := (s.stream n).nextFrame + 1, closed := (s.stream n).closed + 1,
            sunk := (s.stream n).sunk + 1, starved := false, starvedFrames := 0, fillPage := some p }
        ∧ t.page p = { s.page p with stage := .filling, damaged := false, frame := none }
        ∧ Raised
            { kind := .producerResumed, stream := some n, page := some p,
              count := some (BitVec.ofNat 32 (min ((s.stream n).starvedFrames + 1) 0xFFFFFFFF)) } s t
        ∧ OtherStreams n s t ∧ OtherPages [p] s t ∧ StrobeFrame s t)
    ∧ ∀ p : PageId, Recyclable s n p →
      ∃ v w t u, exec (.boundaryEvent n) s = .next u ∧ Retested t u
        ∧ Dropped n p (s.modStream n fun st =>
            { st with
              parity := false, nextFrame := st.nextFrame + 1, closed := st.closed + 1, sunk := st.sunk + 1,
              starved := false, starvedFrames := 0 }) v
        ∧ Filled n p v w
        ∧ RaisedOnly
            { kind := .producerResumed, stream := some n, page := some p,
              count := some (BitVec.ofNat 32 (min ((s.stream n).starvedFrames + 1) 0xFFFFFFFF)) } w t

/-- R46, R47: a closing boundary that finds writes in flight leaves the fill page CLOSING with the frame's number and fills
the first FREE ring page. Waiting
requests are tested again behind it (R122, log 23). -/
def Obligations.CloseWithWritesInFlight : Prop :=
  ∀ (n : StreamId) (o p : PageId) (s : State), Closing s n → (s.stream n).starved = false → (s.stream n).freeze = false →
    (s.stream n).fillPage = some o → (s.page o).stage = .filling → 0 < (s.page o).writeCount → FirstFree s n p →
    ∃ t u, exec (.boundaryEvent n) s = .next u ∧ Retested t u
      ∧ t.page o = { s.page o with stage := .closing, frame := some (s.stream n).nextFrame }
      ∧ t.page p = { s.page p with stage := .filling, damaged := false, frame := none }
      ∧ t.stream n =
        { s.stream n with
          parity := false, nextFrame := (s.stream n).nextFrame + 1, closed := (s.stream n).closed + 1,
          fillPage := some p }
      ∧ OtherStreams n s t ∧ OtherPages [o, p] s t ∧ SameEvents s t ∧ StrobeFrame s t

/-- R46, R47, R53 to R57: a closing boundary that finds no write in flight, no older pending page, an undamaged fill page and
an empty ready list publishes the frame within itself and fills the first FREE ring page. In general it closes the frame, the
publication chain deals with the pending pages, publishing or discarding, and the first ring page that is then FREE is filled.
Waiting requests are tested again behind it (R122, log 23). -/
def Obligations.CloseDrainedPublishes : Prop :=
  (∀ (n : StreamId) (o p : PageId) (s : State), Closing s n → (s.stream n).starved = false → (s.stream n).freeze = false →
      (s.stream n).fillPage = some o → (s.page o).stage = .filling → (s.page o).writeCount = 0 →
      (s.page o).damaged = false → o ∈ (s.stream n).ring →
      (∀ q ∈ (s.stream n).ring, (s.page q).stage ≠ .closing ∧ (s.page q).stage ≠ .sealed) → (s.stream n).ready = [] →
      FirstFree s n p →
      ∃ t u, exec (.boundaryEvent n) s = .next u ∧ Retested t u
        ∧ t.page o = { s.page o with stage := .published, frame := some (s.stream n).nextFrame }
        ∧ t.page p = { s.page p with stage := .filling, damaged := false, frame := none }
        ∧ t.stream n =
          { s.stream n with
            parity := false, nextFrame := (s.stream n).nextFrame + 1, closed := (s.stream n).closed + 1,
            fillPage := some p, ready := [o], published := (s.stream n).published + 1 }
        ∧ OtherStreams n s t ∧ OtherPages [o, p] s t ∧ SameEvents s t ∧ StrobeFrame s t)
    ∧ ∀ (n : StreamId) (o : PageId) (s : State), Safe s → FramesRecent s → FramesInOrder s → Closing s n →
      (s.stream n).starved = false → (s.stream n).freeze = false → (s.stream n).fillPage = some o →
      ∃ w, FrameClosed n o s w ∧ ∀ p, FirstFree w n p →
        ∃ t u, exec (.boundaryEvent n) s = .next u ∧ Retested t u ∧ Filled n p w t

/-- R49: a closing boundary that closes its frame and finds neither a FREE page nor a recycling candidate starves the
stream and raises PRODUCER_STARVED with the number after the closed frame's: first with a write in flight, then in general,
behind the work of the publication chain. Waiting requests are tested again behind it (R122, log 23). -/
def Obligations.CloseStarves : Prop :=
  (∀ (n : StreamId) (o : PageId) (s : State), Closing s n → (s.stream n).starved = false → (s.stream n).freeze = false →
      (s.stream n).fillPage = some o → (s.page o).stage = .filling → 0 < (s.page o).writeCount → NoFillPage s n →
      ∃ t u, exec (.boundaryEvent n) s = .next u ∧ Retested t u
        ∧ t.page o = { s.page o with stage := .closing, frame := some (s.stream n).nextFrame }
        ∧ t.stream n =
          { s.stream n with
            parity := false, nextFrame := (s.stream n).nextFrame + 1, closed := (s.stream n).closed + 1,
            fillPage := none, starved := true, starvedFrames := 0 }
        ∧ Raised
            { kind := .producerStarved, stream := some n, frame := some ((s.stream n).nextFrame + 1) } s t
        ∧ OtherStreams n s t ∧ OtherPages [o] s t ∧ StrobeFrame s t)
    ∧ ∀ (n : StreamId) (o : PageId) (s : State), Safe s → FramesRecent s → FramesInOrder s → Closing s n →
      (s.stream n).starved = false → (s.stream n).freeze = false → (s.stream n).fillPage = some o →
      ∃ w, FrameClosed n o s w ∧ (NoFillPage w n →
        ∃ t u, exec (.boundaryEvent n) s = .next u ∧ Retested t u
          ∧ RaisedOnly { kind := .producerStarved, stream := some n, frame := some ((s.stream n).nextFrame + 1) }
              (w.modStream n fun st => { st with starved := true, fillPage := none, starvedFrames := 0 }) t)

/-- R48: a closing boundary that closes its frame and finds no FREE page takes, under RECYCLE, the oldest ready page
without holder and without read in flight, drops its frame and raises FRAME_DROPPED: first with a write in flight, then in
general, behind the work of the publication chain, where that page may be the one just published. Waiting requests are tested
again behind it (R122, log 23). -/
def Obligations.CloseRecycles : Prop :=
  (∀ (n : StreamId) (o p : PageId) (older newerPages : List PageId) (s : State), Closing s n →
      (s.stream n).starved = false → (s.stream n).freeze = false → (s.stream n).fillPage = some o →
      (s.page o).stage = .filling → 0 < (s.page o).writeCount → (s.stream n).poolPolicy = .recycle →
      (∀ q ∈ (s.stream n).ring, (s.page q).stage ≠ .free) → (s.stream n).ready = older ++ p :: newerPages →
      (s.page p).stage = .published → (s.page p).holdA = false → (s.page p).holdB = false → (s.page p).readCount = 0 →
      (∀ q ∈ older, (s.page q).holdA = true ∨ (s.page q).holdB = true ∨ (s.page q).readCount ≠ 0) →
      ∃ t u, exec (.boundaryEvent n) s = .next u ∧ Retested t u
        ∧ t.page o = { s.page o with stage := .closing, frame := some (s.stream n).nextFrame }
        ∧ t.page p = { s.page p with stage := .filling, damaged := false, frame := none }
        ∧ t.stream n =
          { s.stream n with
            parity := false, nextFrame := (s.stream n).nextFrame + 1, closed := (s.stream n).closed + 1,
            fillPage := some p, dropped := (s.stream n).dropped + 1, ready := (s.stream n).ready.filter (· ≠ p) }
        ∧ Raised
            { kind := .frameDropped, stream := some n, page := some p, frame := (s.page p).frame } s t
        ∧ OtherStreams n s t ∧ OtherPages [o, p] s t ∧ StrobeFrame s t)
    ∧ ∀ (n : StreamId) (o : PageId) (s : State), Safe s → FramesRecent s → FramesInOrder s → Closing s n →
      (s.stream n).starved = false → (s.stream n).freeze = false → (s.stream n).fillPage = some o →
      ∃ w, FrameClosed n o s w ∧ ∀ p, Recyclable w n p →
        ∃ v t u, exec (.boundaryEvent n) s = .next u ∧ Retested t u ∧ Dropped n p w v ∧ Filled n p v t

/-! ## Take events -/

/-- R70, R71: a take without a candidate counts a repeat and makes the stale test: CONSUMER_STALE, with consecutive repeats
as its count, when a threshold above 0 is reached with the stale-raised flag off. -/
def Obligations.RepeatAndStaleTest : Prop :=
  ∀ (n : StreamId) (x : SlotId) (k : Nat) (s : State), s.resetn = true → (s.stream n).state = .running →
    (s.slot n x).enabled = true → (s.slot n x).freeze = false → candidate s n x = none →
    k = min ((s.slot n x).repeatsInRow + 1) 255 →
    ∃ t, exec (.takeEvent n x) s = .next t
      ∧ ((s.slot n x).staleThreshold ≠ 0 ∧ (s.slot n x).staleThreshold.toNat ≤ k ∧ (s.slot n x).staleRaised = false →
          t.slot n x = { s.slot n x with repeats := (s.slot n x).repeats + 1, repeatsInRow := k, staleRaised := true }
            ∧ Raised
                { kind := .consumerStale, stream := some n, slot := some x, count := some (BitVec.ofNat 32 k) } s t)
      ∧ ((s.slot n x).staleThreshold = 0 ∨ k < (s.slot n x).staleThreshold.toNat ∨ (s.slot n x).staleRaised = true →
          t.slot n x = { s.slot n x with repeats := (s.slot n x).repeats + 1, repeatsInRow := k }
            ∧ t.events = s.events ∧ t.lost = s.lost ∧ t.attn = s.attn)
      ∧ t.stream n = (s.stream n).modSlot x (fun _ => t.slot n x)
      ∧ OtherStreams n s t ∧ t.pages = s.pages ∧ StrobeFrame s t

/-- R67, R68: under NEWEST the candidate is the newest ready page if its frame is newer than the last taken one; under
OLDEST it is the oldest ready page whose frame is newer; any frame is newer than none. -/
def Obligations.CandidateOfATake : Prop :=
  ∀ (n : StreamId) (x : SlotId) (s : State) (isNewer : PageId → Prop),
    (∀ p, isNewer p ↔ (s.slot n x).lastTaken = none
      ∨ ∃ l f, (s.slot n x).lastTaken = some l ∧ (s.page p).frame = some f
          ∧ 1 ≤ (f - l).toNat ∧ (f - l).toNat ≤ 2 ^ 31 - 1) →
    ((s.stream n).takePolicy = .newest → ∀ c : PageId,
      candidate s n x = some c ↔ (s.stream n).ready.getLast? = some c ∧ isNewer c)
    ∧ ((s.stream n).takePolicy = .oldest → ∀ c : PageId,
      candidate s n x = some c ↔
        ∃ older newerPages, (s.stream n).ready = older ++ c :: newerPages ∧ isNewer c ∧ ∀ q ∈ older, ¬ isNewer q)

/-- R69, R76, R77, R78: a take with a candidate gives the slot that page and its frame number, counts the take, ends the run
of repeats and moves the slot from the old page's holders to the new one's; then the old page is tested for retirement, and
under OLDEST every ready page: those for which R76 holds leave the ready list and are released, the others stay. Waiting
requests are tested again behind it (R122, log 23). -/
def Obligations.SuccessfulTake : Prop :=
  ∀ (n : StreamId) (x : SlotId) (c : PageId) (s : State), Safe s → s.resetn = true → (s.stream n).state = .running →
    (s.slot n x).enabled = true → (s.slot n x).freeze = false → candidate s n x = some c →
    ∃ v t u tested, exec (.takeEvent n x) s = .next u ∧ Retested t u
      ∧ v.stream n = (s.stream n).modSlot x (fun sl =>
          { sl with
            held := some c, lastTaken := (s.page c).frame, takes := sl.takes + 1, repeatsInRow := 0,
            staleRaised := false })
      ∧ v.page c = (s.page c).setHolder x true
      ∧ (∀ o, (s.slot n x).held = some o → o ≠ c → v.page o = (s.page o).setHolder x false)
      ∧ (∀ q, q ≠ c → (s.slot n x).held ≠ some q → v.page q = s.page q)
      ∧ OtherStreams n s v ∧ SameEvents s v ∧ RotationOnly s v
      ∧ (∀ q, q ∈ tested ↔ (s.slot n x).held = some q
          ∨ (s.stream n).takePolicy = .oldest ∧ q ∈ (s.stream n).ready)
      ∧ Retired n tested v t ∧ c ∈ (t.stream n).ready

/-! ## Steering -/

/-- R104, R110, R184: outside every aperture a request is PASS, unchanged in one piece, when it meets no assigned page, and else
refused PRIVATE and reported with the owner of the page that holds the lowest overlapped byte. -/
def Obligations.RequestOutsideApertures : Prop :=
  ∀ (s : State) (p : PortId) (r : Request), r.addr.toNat + 16 * (r.len.toNat + 1) - 1 ≤ 0xFFFFFFFFFF →
    OutsideApertures s r →
    ((∀ q, (s.page q).stage ≠ .unassigned → (reqRange r).overlaps (s.page q).range = false) →
      ∃ data, TakenBeats r data ∧ (steer s p r).disposition = .pass ∧ (steer s p r).target = none ∧ (steer s p r).prepared = none
        ∧ (steer s p r).report = none
        ∧ (steer s p r).pieces =
          [{ addr := r.addr, length := r.len.toNat + 1, data := data, status := .queued, readData := [] }])
    ∧ ∀ q : PageId, (s.page q).stage ≠ .unassigned → (reqRange r).overlaps (s.page q).range = true →
      (∀ q', q' ≠ q → (s.page q').stage ≠ .unassigned → (reqRange r).overlaps (s.page q').range = true →
        max r.addr.toNat (s.page q).base.toNat < max r.addr.toNat (s.page q').base.toNat) →
      RefusedWith (steer s p r) .privatePage
        (some { kind := .requestRefused, port := some p, tag := some r.tag, addr := some r.addr,
                reason := some .privatePage, stream := (s.page q).owner })

/-- R103, R105: a request past the top of the address space is refused RANGE and reported without a stream; one that meets an
aperture and lies wholly inside none is refused RANGE and reported with the stream of the aperture that holds its lowest
byte in any aperture. -/
def Obligations.RequestRefusedRange : Prop :=
  (∀ (s : State) (p : PortId) (r : Request), 0xFFFFFFFFFF < r.addr.toNat + 16 * (r.len.toNat + 1) - 1 →
      RefusedWith (steer s p r) .range
        (some { kind := .requestRefused, port := some p, tag := some r.tag, addr := some r.addr, reason := some .range }))
    ∧ ∀ (s : State) (p : PortId) (r : Request) (a : Aperture),
      r.addr.toNat + 16 * (r.len.toNat + 1) - 1 ≤ 0xFFFFFFFFFF →
      a ∈ definedApertures s → (reqRange r).overlaps a.range = true →
      (∀ b ∈ definedApertures s, (reqRange r).inside b.range = false) →
      (∀ b ∈ definedApertures s, b.stream ≠ a.stream → (reqRange r).overlaps b.range = true →
        max r.addr.toNat a.range.base < max r.addr.toNat b.range.base) →
      RefusedWith (steer s p r) .range
        (some { kind := .requestRefused, port := some p, tag := some r.tag, addr := some r.addr, reason := some .range,
                stream := some a.stream })

/-- R106, R107: inside an aperture of an OFF stream a request is refused IDLE, of a STOPPING one STOPPING, without a
report; of a RUNNING one ALIGN when its address is no multiple of 16, and ROLE when its tag or kind is not allowed. -/
def Obligations.RequestRefusedInsideAnAperture : Prop :=
  ∀ (s : State) (p : PortId) (r : Request) (a : Aperture), RangesLaw s →
    r.addr.toNat + 16 * (r.len.toNat + 1) - 1 ≤ 0xFFFFFFFFFF → a ∈ definedApertures s →
    (reqRange r).inside a.range = true →
    ((s.stream a.stream).state = .off → RefusedWith (steer s p r) .idle none)
    ∧ ((s.stream a.stream).state = .stopping → RefusedWith (steer s p r) .stopping none)
    ∧ ((s.stream a.stream).state = .running →
      (r.addr.toNat % 16 ≠ 0 →
        RefusedWith (steer s p r) .align
          (some { kind := .requestRefused, port := some p, tag := some r.tag, addr := some r.addr, reason := some .align,
                  stream := some a.stream }))
      ∧ (r.addr.toNat % 16 = 0 →
        (a.role = .producer ∧ r.tag ≠ (s.stream a.stream).producerTag
          ∨ ∃ x, a.role = .slot x ∧ (r.tag ≠ (s.slot a.stream x).tag ∨ r.kind = .write)) →
        RefusedWith (steer s p r) .role
          (some { kind := .requestRefused, port := some p, tag := some r.tag, addr := some r.addr, reason := some .role,
                  stream := some a.stream })))

/-- R108, R12, R13, R14, R111: an allowed producer request goes to the fill page, with the piece addresses that the transform and
the cut at the line boundary give; on a starved stream a WRITE is SUNK and a READ answered with the fill value. -/
def Obligations.ProducerRequest : Prop :=
  ∀ (s : State) (p : PortId) (r : Request) (a : Aperture) (st : Stream) (o : Nat) (line : Nat → Nat) (addr : Nat → Addr),
    RangesLaw s → r.addr.toNat + 16 * (r.len.toNat + 1) - 1 ≤ 0xFFFFFFFFFF → a ∈ definedApertures s →
    (reqRange r).inside a.range = true → a.role = .producer → st = s.stream a.stream → st.state = .running →
    r.addr.toNat % 16 = 0 → r.tag = st.producerTag → o = r.addr.toNat - st.base.toNat →
    (st.starved = true →
      (r.kind = .write → AnsweredWith (steer s p r) .sunk [])
      ∧ (r.kind = .read → ∃ b, BlankBeat st.fill b
        ∧ AnsweredWith (steer s p r) .blank (List.replicate (r.len.toNat + 1) b)))
    ∧ ∀ q : PageId, st.starved = false → st.fillPage = some q →
      (∀ l, line l = match st.transform with
        | .linear => l
        | .vflip => st.lines.toNat - 1 - l
        | .weave => 2 * l + st.parity.toNat) →
      (∀ k, addr k = BitVec.ofNat 40 ((s.page q).base.toNat + line (k / st.lineLength.toNat) * st.stride.toNat
        + k % st.lineLength.toNat)) →
      DirectedTo (steer s p r) ⟨a.stream, .producer, q⟩
        ∧ (steer s p r).pieces.map (fun pc => (pc.addr, pc.length)) =
          if o % st.lineLength.toNat + 16 * (r.len.toNat + 1) ≤ st.lineLength.toNat then [(addr o, r.len.toNat + 1)]
          else
            [(addr o, (st.lineLength.toNat - o % st.lineLength.toNat) / 16),
             (addr (o + (st.lineLength.toNat - o % st.lineLength.toNat)),
              r.len.toNat + 1 - (st.lineLength.toNat - o % st.lineLength.toNat) / 16)]

/-- R109, R13, R111, R14: an allowed slot READ goes to the held page through the crop window, cut at the line boundary, and
is answered with the fill value while the slot holds nothing. -/
def Obligations.SlotRequest : Prop :=
  ∀ (s : State) (p : PortId) (r : Request) (a : Aperture) (x : SlotId) (st : Stream) (sl : Slot) (o : Nat)
    (addr : Nat → Addr),
    RangesLaw s → r.addr.toNat + 16 * (r.len.toNat + 1) - 1 ≤ 0xFFFFFFFFFF → a ∈ definedApertures s →
    (reqRange r).inside a.range = true → a.role = .slot x → st = s.stream a.stream → st.state = .running →
    sl = st.slot x → r.addr.toNat % 16 = 0 → r.tag = sl.tag → r.kind = .read → o = r.addr.toNat - sl.base.toNat →
    (sl.held = none →
      ∃ b, BlankBeat st.fill b ∧ AnsweredWith (steer s p r) .blank (List.replicate (r.len.toNat + 1) b))
    ∧ ∀ q : PageId, sl.held = some q →
      (∀ k, addr k = BitVec.ofNat 40 ((s.page q).base.toNat
        + (sl.cropLine.toNat + k / sl.lineLength.toNat) * st.stride.toNat + sl.cropByte.toNat
        + k % sl.lineLength.toNat)) →
      DirectedTo (steer s p r) ⟨a.stream, .slot x, q⟩
        ∧ (steer s p r).pieces.map (fun pc => (pc.addr, pc.length)) =
          if o % sl.lineLength.toNat + 16 * (r.len.toNat + 1) ≤ sl.lineLength.toNat then [(addr o, r.len.toNat + 1)]
          else
            [(addr o, (sl.lineLength.toNat - o % sl.lineLength.toNat) / 16),
             (addr (o + (sl.lineLength.toNat - o % sl.lineLength.toNat)),
              r.len.toNat + 1 - (sl.lineLength.toNat - o % sl.lineLength.toNat) / 16)]

/-- R111: the cut of an aligned request of 1 to 16 beats gives one or two pieces of at least a beat, each inside one aperture
line, that follow one another and hold together exactly the request's beats. -/
def Obligations.CutKeepsTheRequest : Prop :=
  ∀ (lineLength o beats : Nat) (address : Nat → Nat) (data : List WriteBeat),
    256 ≤ lineLength → lineLength % 16 = 0 → o % 16 = 0 → 1 ≤ beats → beats ≤ 16 → data.length = beats →
    (cutLine lineLength o beats).length ≤ 2
      ∧ ((cutLine lineLength o beats).map (·.2)).sum = beats
      ∧ (∀ c ∈ cutLine lineLength o beats, 1 ≤ c.2 ∧ c.1 % lineLength + 16 * c.2 ≤ lineLength)
      ∧ (cutLine lineLength o beats).head?.map (·.1) = some o
      ∧ (∀ c d, cutLine lineLength o beats = [c, d] → d.1 = c.1 + 16 * c.2 ∧ d.1 % lineLength = 0)
      ∧ (piecesOf address (cutLine lineLength o beats) data).flatMap (·.data) = data

/-- R16: in a safe state every byte of every piece that steering directs to a page lies in that page, and every such piece
is 16-byte aligned and has 1 to 16 beats. -/
def Obligations.PiecesStayInsideTheirPage : Prop :=
  ∀ (s : State) (p : PortId) (r : Request) (t : Target) (pc : Piece), Safe s → (steer s p r).target = some t →
    pc ∈ (steer s p r).pieces →
    (s.page t.page).base.toNat ≤ pc.addr.toNat
      ∧ pc.addr.toNat + 16 * pc.length ≤ (s.page t.page).base.toNat + (s.page t.page).size.toNat
      ∧ pc.addr.toNat % 16 = 0 ∧ 1 ≤ pc.length ∧ pc.length ≤ 16

/-- R12, R13: with lines no longer than the page stride no two bytes of a producer aperture, in WEAVE of either field, land
on one byte of the page. -/
def Obligations.TransformsAreInjective : Prop :=
  ∀ (st : Stream) (pg : Page) (b c : Bool) (o q : Nat),
    0 < st.lineLength.toNat → st.lineLength.toNat ≤ st.stride.toNat →
    o < st.lines.toNat * st.lineLength.toNat → q < st.lines.toNat * st.lineLength.toNat →
    producerAddress { st with parity := b } pg o = producerAddress { st with parity := c } pg q →
    o = q ∧ (st.transform = .weave → b = c)

/-! ## Acceptance -/

/-- R101, R118, R119, R122, R123, R113, R129, R140: with room, a request takes the lowest-numbered FREE entry as its port's
youngest, its pieces join the tail of the issue queue, the page's count rises by one, the refusal is reported, the counters
rise and the port presents its oldest deliverable entry; then each unused indication that finds a piece is a grant to the
port. Without room the request waits on its link. A link presents one head request: an event there while one waits is a test
of that one. Other waiting requests are tested again behind it (R122). (Where a request waits is the model's choice, log 5;
that the URG levels come with the event and are kept, log 4; the order of the re-test, log 23.) -/
def Obligations.AcceptanceTakesAnEntry : Prop :=
  (∀ (p : PortId) (r : Request) (urg : UrgLevels) (s : State) (d : Decision), s.resetn = true →
      s.links.waiting.get p = none → d = steer s p r →
      (∀ e : EntryId, (s.entry e).state = .free → (∀ e', e' < e → (s.entry e').state ≠ .free) →
        (s.port p).order.length < 12 → (s.port p).queue.length + d.pieces.length ≤ 16 →
        (s.indications = 0 ∨ ((∀ q, (s.port q).queue = []) ∧ 1 ≤ (s.port p).weight)) →
        ∃ a t u, exec (.acceptance p r urg) s = .next u ∧ Retested t u
          ∧ t = acceptHead p r { s with links := { s.links with urg := urg } }
          ∧ GrantsTo (min s.indications d.pieces.length) p a t
          ∧ a.entry e =
            { state := if d.pieces = [] then .doneWaiting else .queued, port := p, id := r.id, tag := r.tag,
              kind := r.kind, length := r.len.toNat + 1, disposition := d.disposition, target := d.target,
              pieces := d.pieces, prepared := d.prepared }
          ∧ OtherEntries e s a
          ∧ a.port p =
            { s.port p with
              order := (s.port p).order ++ [e],
              queue := (s.port p).queue ++ (List.range d.pieces.length).map (fun k => ⟨e, k == 1⟩),
              accepted := (s.port p).accepted + 1,
              refused := if d.disposition.isRefusal then (s.port p).refused + 1 else (s.port p).refused,
              presented := (a.port p).presented }
          ∧ Presents (s.port p).presented p a
          ∧ OtherPorts p s a ∧ a.streams = s.streams
          ∧ (d.target = none → a.pages = s.pages)
          ∧ (∀ g, d.target = some g →
              a.page g.page = (match r.kind with
                | .write => { s.page g.page with writeCount := (s.page g.page).writeCount + 1 }
                | .read => { s.page g.page with readCount := (s.page g.page).readCount + 1 })
              ∧ OtherPages [g.page] s a)
          ∧ (d.report = none → a.events = s.events ∧ a.lost = s.lost ∧ a.attn = s.attn)
          ∧ (∀ rec, d.report = some rec → Raised rec s a)
          ∧ a.pointer = s.pointer ∧ a.indications = s.indications ∧ a.datapath = s.datapath ∧ a.stray = s.stray
          ∧ a.links = { s.links with urg := urg } ∧ SameSettings s a ∧ SamePort s a)
      ∧ (NoRoom s p r →
        ∃ t u, exec (.acceptance p r urg) s = .next u ∧ Retested t u
          ∧ t = acceptHead p r { s with links := { s.links with urg := urg } }
          ∧ t.links.waiting.get p = some r ∧ (∀ q, q ≠ p → t.links.waiting.get q = s.links.waiting.get q)
          ∧ t.links.urg = urg ∧ t.links.sentPieces = s.links.sentPieces
          ∧ t.links.sentResponses = s.links.sentResponses ∧ t.links.mdoBits = s.links.mdoBits
          ∧ SameRotation s t ∧ SameTraffic s t ∧ SameEvents s t ∧ SamePort s t))
    ∧ ∀ (p : PortId) (r head : Request) (urg : UrgLevels) (s t : State), s.resetn = true →
      s.links.waiting.get p = some head → t.links.waiting.get p = none →
      (∀ q, q ≠ p → t.links.waiting.get q = s.links.waiting.get q) →
      t = { s with links := { s.links with waiting := t.links.waiting } } →
      ∃ u, exec (.acceptance p r urg) s = .next u ∧ exec (.acceptance p head urg) t = .next u

/-! ## Grants -/

/-- R140: an indication that finds every issue queue empty stands, counted up to 96, and nothing else happens but that waiting
requests are tested again (R122, log 23). (The URG levels come with the event and are kept, log 4.) -/
def Obligations.IndicationStands : Prop :=
  ∀ (urg : UrgLevels) (s : State), s.resetn = true → (∀ p, (s.port p).queue = []) →
    ∃ t u, exec (.indication urg) s = .next u ∧ Retested t u ∧ t.indications = min (s.indications + 1) 96
      ∧ t.links = { s.links with urg := urg } ∧ t.entries = s.entries ∧ t.ports = s.ports ∧ t.pointer = s.pointer
      ∧ t.datapath = s.datapath ∧ t.stray = s.stray ∧ SameRotation s t ∧ SameEvents s t ∧ SamePort s t

/-- R143, R144, R140, R124, R139: `member` is the class that these URG levels choose. The grant goes to the first member with
credit from the pointer on; with no credit in the class every credit is reloaded first. The granted port's head piece goes
out, in the fields of R183. Waiting requests are tested again behind it (R138, log 23). (The levels come with the event, log
4; the record of what was sent is the model's own, log 6.) -/
def Obligations.GrantFollowsCreditAndRotation : Prop :=
  ∀ (urg : UrgLevels) (s : State) (g : PortId) (member : PortId → Prop),
    s.resetn = true → s.indications = 0 → TableLaw s →
    (∀ p, member p ↔ (s.port p).queue ≠ []
      ∧ (urg.get p = true ∨ ∀ q, urg.get q = true → (s.port q).queue = [])) →
    (∀ p, 1 ≤ (s.port p).weight) → member g →
    ((0 < (s.port g).credit ∧ ∀ k : Nat, k < (g - s.pointer).val →
        ¬ (member (s.pointer + Fin.ofNat 4 k) ∧ 0 < (s.port (s.pointer + Fin.ofNat 4 k)).credit))
      ∨ ((∀ p, member p → (s.port p).credit = 0) ∧ ∀ k : Nat, k < (g - s.pointer).val →
        ¬ member (s.pointer + Fin.ofNat 4 k))) →
    ∃ t u, exec (.indication urg) s = .next u ∧ Retested t u
      ∧ GrantTo g { s with indications := 1, links := { s.links with urg := urg } } t

/-! ## Completions and deliveries -/

/-- R125: a completion whose tag names no outstanding piece is counted as stray, and nothing else happens. -/
def Obligations.StrayCompletion : Prop :=
  ∀ (c : Completion) (s : State), s.resetn = true →
    (∀ (r : PieceRef) (pc : Piece), 2 * r.entry.val + r.second.toNat = c.tag.toNat →
      (s.entry r.entry).piece r.second = some pc → pc.status ≠ .outstanding) →
    ∃ t, exec (.downstreamCompletion c) s = .next t ∧ t.stray = s.stray + 1
      ∧ t.entries = s.entries ∧ t.ports = s.ports ∧ t.pointer = s.pointer ∧ t.indications = s.indications
      ∧ t.datapath = s.datapath ∧ t.links = s.links ∧ SameRotation s t ∧ SameEvents s t ∧ SamePort s t

/-- R126, R127, R129, R141: the completion of an entry's last piece in flight prepares DONE, with a READ's beats in address
order as its data, when every piece is OK, and FAULT when one failed; a failing piece is reported; the page's count falls,
with what the rotation controller then does; and the port presents its oldest deliverable entry. Waiting requests are tested
again behind it (R122, log 23). -/
def Obligations.OnePieceCompletion : Prop :=
  ∀ (c : Completion) (e : EntryId) (before after : List Piece) (pc : Piece) (ok : Bool) (s : State), Safe s →
    FramesRecent s → FramesInOrder s → s.resetn = true → c.tag.toNat = 2 * e.val + before.length →
    (s.entry e).state = .issued → (s.entry e).pieces = before ++ pc :: after → pc.status = .outstanding →
    (∀ q ∈ before ++ after, q.status = .ok ∨ q.status = .error) →
    (ok = true ↔ CompletesOk c (s.entry e).kind pc.length) →
    ∃ a b v t u, exec (.downstreamCompletion c) s = .next u ∧ Retested t u
      ∧ (ok = true → a = s) ∧ (ok = false → FailureReported (s.entry e) pc.addr s a)
      ∧ b = a.modEntry e (fun en =>
          { en with
            state := .doneWaiting,
            pieces := (before ++ { pc with status := if ok then .ok else .error } :: after).map
              fun q => { q with readData := [] },
            prepared := some (if ok = true ∧ ∀ q ∈ before ++ after, q.status = .ok then
                { status := .done, reason := none,
                  data := if (s.entry e).kind = .read then
                      before.flatMap (·.readData) ++ c.beats.take pc.length ++ after.flatMap (·.readData)
                    else [] }
              else { status := .fault, reason := none, data := [] }) })
      ∧ ((s.entry e).target = none → v = b)
      ∧ (∀ g, (s.entry e).target = some g → CountLowered (s.entry e).kind g.page b v)
      ∧ t = v.modPort (s.entry e).port (fun po => { po with presented := (t.port (s.entry e).port).presented })
      ∧ Presents (s.port (s.entry e).port).presented (s.entry e).port t

/-- R126, R141, R35: the completion of one piece of an entry whose other piece is still queued or outstanding sets the status
of that piece, whose beats an ISSUED READ keeps, and the entry goes on waiting; an ERROR, or a READ with too few beats, is
counted and raises DOWNSTREAM_FAULT, and a WRITE's FILLING or CLOSING page is marked damaged. Waiting requests are tested again
behind it (R122, log 23). -/
def Obligations.CompletionBesideAnotherPiece : Prop :=
  ∀ (c : Completion) (r : PieceRef) (pc other : Piece) (ok : Bool) (s : State), QuiesceLaw s → s.resetn = true →
    c.tag.toNat = 2 * r.entry.val + r.second.toNat → (s.entry r.entry).piece r.second = some pc →
    pc.status = .outstanding → (s.entry r.entry).piece (!r.second) = some other →
    other.status = .queued ∨ other.status = .outstanding →
    (ok = true ↔ CompletesOk c (s.entry r.entry).kind pc.length) →
    ∃ a t u, exec (.downstreamCompletion c) s = .next u ∧ Retested t u
      ∧ (ok = true → a = s) ∧ (ok = false → FailureReported (s.entry r.entry) pc.addr s a)
      ∧ t.entry r.entry =
        { s.entry r.entry with
          pieces := (s.entry r.entry).pieces.modify r.second.toNat fun q =>
            { q with
              status := if ok then .ok else .error,
              readData := if ok ∧ (s.entry r.entry).kind = .read ∧ (s.entry r.entry).state = .issued then
                c.beats.take pc.length else [] } }
      ∧ OtherEntries r.entry s t
      ∧ t.ports = (a.modPort (s.entry r.entry).port fun po =>
          { po with presented := (t.port (s.entry r.entry).port).presented }).ports
      ∧ Presents (s.port (s.entry r.entry).port).presented (s.entry r.entry).port t
      ∧ t = { a with entries := t.entries, ports := t.ports }

/-- R126, R132, R133, R29, R32, R129: after a datapath reset the completion of an entry's last outstanding piece frees an
ORPHANED entry, and leaves one that still holds REFUSED RESET to its delivery; its RETIRING page's count falls, and the page is
FREE at the last count; when nothing holds the datapath any more it is NORMAL, and DATAPATH_QUIET is raised behind a
DOWNSTREAM_FAULT. The port presents its oldest deliverable entry, and waiting requests are tested again (R122, log 23). -/
def Obligations.CompletionAfterADatapathReset : Prop :=
  ∀ (c : Completion) (e : EntryId) (before after : List Piece) (pc : Piece) (ok : Bool) (s : State), s.resetn = true →
    c.tag.toNat = 2 * e.val + before.length → (s.entry e).pieces = before ++ pc :: after →
    before.length + after.length ≤ 1 → pc.status = .outstanding →
    (∀ q ∈ before ++ after, q.status ≠ .queued ∧ q.status ≠ .outstanding) → s.datapath = .quiescing →
    (s.entry e).state = .orphaned
      ∨ (s.entry e).state = .doneWaiting
        ∧ (s.entry e).prepared = some { status := .refused, reason := some .reset, data := [] } →
    (∀ g, (s.entry e).target = some g → (s.page g.page).stage = .retiring ∧ (s.page g.page).holdA = false
      ∧ (s.page g.page).holdB = false ∧ ∃ n, (s.page g.page).owner = some n ∧ (s.stream n).state = .off) →
    (ok = true ↔ CompletesOk c (s.entry e).kind pc.length) →
    ∃ u t w, exec (.downstreamCompletion c) s = .next w ∧ Retested t w
      ∧ ((s.entry e).state = .orphaned →
          (t.entry e).state = .free
          ∧ t.port (s.entry e).port =
            { s.port (s.entry e).port with
              order := (s.port (s.entry e).port).order.filter (· ≠ e),
              faults := (s.port (s.entry e).port).faults + (if ok then 0 else 1),
              presented := (t.port (s.entry e).port).presented })
      ∧ ((s.entry e).state = .doneWaiting →
          t.entry e = { s.entry e with pieces := before ++ { pc with status := if ok then .ok else .error, readData := [] } :: after }
          ∧ t.port (s.entry e).port =
            { s.port (s.entry e).port with
              faults := (s.port (s.entry e).port).faults + (if ok then 0 else 1),
              presented := (t.port (s.entry e).port).presented })
      ∧ Presents (s.port (s.entry e).port).presented (s.entry e).port t
      ∧ OtherEntries e s t ∧ OtherPorts (s.entry e).port s t
      ∧ ((s.entry e).target = none → t.pages = s.pages)
      ∧ (∀ g, (s.entry e).target = some g →
          (t.page g.page).writeCount =
            (s.page g.page).writeCount - (if (s.entry e).kind = .write then 1 else 0)
          ∧ (t.page g.page).readCount = (s.page g.page).readCount - (if (s.entry e).kind = .read then 1 else 0)
          ∧ (t.page g.page).stage =
            (if (t.page g.page).writeCount = 0 ∧ (t.page g.page).readCount = 0 then .free else .retiring)
          ∧ (t.page g.page).damaged = (s.page g.page).damaged ∧ (t.page g.page).owner = (s.page g.page).owner
          ∧ OtherPages [g.page] s t)
      ∧ (ok = true → SameEvents s u)
      ∧ (ok = false →
          Raised
            { kind := .downstreamFault, port := some (s.entry e).port, tag := some (s.entry e).tag,
              addr := some pc.addr, stream := (s.entry e).target.map (·.stream),
              page := (s.entry e).target.map (·.page),
              slot := (s.entry e).target.bind fun g => match g.role with
                | .producer => none
                | .slot x => some x } s u
          ∧ SameSettings s u)
      ∧ ((s.entry e).state = .doneWaiting ∨ (∃ d, d ≠ e ∧ (s.entry d).holdsQuiesce = true) →
          t.datapath = .quiescing ∧ SameEvents u t)
      ∧ ((s.entry e).state = .orphaned → (∀ d, d ≠ e → (s.entry d).holdsQuiesce = false) →
          t.datapath = .normal ∧ Raised { kind := .datapathQuiet } u t ∧ SameSettings u t)
      ∧ t.streams = s.streams ∧ t.pointer = s.pointer ∧ t.indications = s.indications ∧ t.stray = s.stray
      ∧ t.links = s.links ∧ SamePort s t

/-- R29, R30, R35, R53 to R57: the completion of the last write in flight on a CLOSING page, with no other page pending
and an empty ready list, publishes the frame when the page is undamaged and the write is OK, and discards it when the write
fails, with DOWNSTREAM_FAULT before FRAME_DAMAGED. In general the page seals and the publication chain deals with the pending
pages in frame order: behind an older CLOSING page the sealed one waits, and its own sealing lets newer sealed pages follow.
Waiting requests are tested again behind it (R122, log 23). -/
def Obligations.LastWriteSealsTheFrame : Prop :=
  (∀ (c : Completion) (e : EntryId) (pc : Piece) (g : Target) (n : StreamId) (q : PageId) (s : State), s.resetn = true →
      c.tag.toNat = 2 * e.val → (s.entry e).state = .issued → (s.entry e).kind = .write → (s.entry e).pieces = [pc] →
      pc.status = .outstanding → (s.entry e).target = some g → g.page = q → g.role = .producer → g.stream = n →
      (s.page q).owner = some n → (s.page q).stage = .closing → (s.page q).writeCount = 1 → (s.page q).damaged = false →
      q ∈ (s.stream n).ring →
      (∀ q' ∈ (s.stream n).ring, q' ≠ q → (s.page q').stage ≠ .closing ∧ (s.page q').stage ≠ .sealed) →
      (s.stream n).ready = [] → QuiesceLaw s →
      (c.status = .ok →
        ∃ t u, exec (.downstreamCompletion c) s = .next u ∧ Retested t u
          ∧ t.page q = { s.page q with stage := .published, writeCount := 0 }
          ∧ t.stream n = { s.stream n with ready := [q], published := (s.stream n).published + 1 }
          ∧ OtherPages [q] s t ∧ OtherStreams n s t ∧ OtherEntries e s t
          ∧ Presents (s.port (s.entry e).port).presented (s.entry e).port t
          ∧ (t.entry e).prepared = some { status := .done, reason := none, data := [] }
          ∧ SameEvents s t ∧ t.links = s.links ∧ SamePort s t)
      ∧ (c.status = .error →
        ∃ u t w, exec (.downstreamCompletion c) s = .next w ∧ Retested t w
          ∧ t.page q =
            { s.page q with
              stage := if (s.page q).readCount = 0 then .free else .retiring, writeCount := 0, damaged := true,
              frame := none, holdA := false, holdB := false }
          ∧ t.stream n = { s.stream n with damaged := (s.stream n).damaged + 1 }
          ∧ OtherPages [q] s t ∧ OtherStreams n s t ∧ OtherEntries e s t
          ∧ Presents (s.port (s.entry e).port).presented (s.entry e).port t
          ∧ (t.entry e).prepared = some { status := .fault, reason := none, data := [] }
          ∧ Raised
              { kind := .downstreamFault, port := some (s.entry e).port, tag := some (s.entry e).tag,
                addr := some pc.addr, stream := some n, page := some q } s u
          ∧ SameSettings s u
          ∧ Raised { kind := .frameDamaged, stream := some n, page := some q, frame := (s.page q).frame } u t
          ∧ SameSettings s t ∧ t.links = s.links ∧ SamePort s t))
    ∧ ∀ (c : Completion) (e : EntryId) (pc : Piece) (g : Target) (n : StreamId) (s : State), Safe s → FramesRecent s →
      FramesInOrder s → s.resetn = true → c.tag.toNat = 2 * e.val → (s.entry e).state = .issued →
      (s.entry e).kind = .write → (s.entry e).pieces = [pc] → pc.status = .outstanding → (s.entry e).target = some g →
      (s.page g.page).owner = some n → (s.page g.page).stage = .closing → (s.page g.page).writeCount = 1 →
      ∃ a b v t u, exec (.downstreamCompletion c) s = .next u ∧ Retested t u
        ∧ (c.status = .ok → a = s) ∧ (c.status = .error → FailureReported (s.entry e) pc.addr s a)
        ∧ b = (a.modEntry e fun _ => b.entry e).modPage g.page (fun pg => { pg with writeCount := 0, stage := .sealed })
        ∧ Chain n b v
        ∧ t = v.modPort (s.entry e).port (fun po => { po with presented := (t.port (s.entry e).port).presented })

/-- R129, R132, R133, R100: a delivery puts the presented response on the link, in the codes of R183; its entry becomes FREE
and leaves the acceptance order, or becomes ORPHANED while a piece of it is outstanding, and the port presents its oldest
deliverable entry; where it was the last one to hold the datapath, that is NORMAL again and DATAPATH_QUIET is raised. Waiting
requests are tested again behind it (R122, log 23). With nothing presented nothing happens (log 14). (The record of what was
sent is the model's own, log 6.) -/
def Obligations.DeliveryEndsTheEntry : Prop :=
  ∀ (p : PortId) (s : State), s.resetn = true → QuiesceLaw s →
    ((s.port p).presented = none → ∃ t, exec (.delivery p) s = .next t ∧ t = s)
    ∧ ∀ (e : EntryId) (resp : Response), (s.port p).presented = some e → (s.entry e).prepared = some resp →
      (s.entry e).port = p →
      ∃ t u m, exec (.delivery p) s = .next u ∧ Retested t u ∧ OtherEntries e s t ∧ OtherPorts p s t ∧ Presents none p t
        ∧ ResponseSent p (s.entry e).id resp m
        ∧ t.links = { s.links with sentResponses := s.links.sentResponses ++ [m] }
        ∧ ((∀ pc ∈ (s.entry e).pieces, pc.status ≠ .outstanding) →
          (t.entry e).state = .free
            ∧ t.port p =
              { s.port p with order := (s.port p).order.filter (· ≠ e), presented := (t.port p).presented }
            ∧ (s.datapath = .normal ∨ (∃ d, d ≠ e ∧ (s.entry d).holdsQuiesce = true) →
                t.datapath = s.datapath ∧ SameEvents s t)
            ∧ (s.datapath = .quiescing → (∀ d, d ≠ e → (s.entry d).holdsQuiesce = false) →
                t.datapath = .normal ∧ Raised { kind := .datapathQuiet } s t ∧ SameSettings s t))
        ∧ ((∃ pc ∈ (s.entry e).pieces, pc.status = .outstanding) →
          t.entry e = { s.entry e with state := .orphaned, prepared := none }
            ∧ t.port p = { s.port p with presented := (t.port p).presented }
            ∧ t.datapath = s.datapath ∧ SameEvents s t)
        ∧ t.pointer = s.pointer ∧ t.indications = s.indications ∧ t.stray = s.stray ∧ SameRotation s t ∧ SamePort s t

/-- R128, R129: a port that presents nothing presents the deliverable entry that is oldest in its acceptance order; one that
presents something goes on presenting it. -/
def Obligations.PortPresentsTheOldestDeliverable : Prop :=
  ∀ (p : PortId) (s : State),
    ((s.port p).presented ≠ none → (present p s).port p = s.port p)
    ∧ ((s.port p).presented = none → ∀ e : EntryId,
      ((present p s).port p).presented = some e ↔ OldestDeliverable s p e)

/-! ## Laws that every step keeps -/

/-- R152, R154, R157: every step keeps the law of the event queue. -/
def Obligations.EventQueueLawKept : Prop :=
  ∀ s t : State, EventQueueLaw s → step s = .next t → EventQueueLaw t

/-- R140, R142: every step keeps the law of the scheduler. -/
def Obligations.ArbiterLawKept : Prop :=
  ∀ s t : State, ArbiterLaw s → step s = .next t → ArbiterLaw t

/-- R21, R26: every step keeps the law of the rings. -/
def Obligations.RingLawKept : Prop :=
  ∀ s t : State, RingLaw s → step s = .next t → RingLaw t

/-- R8, R27: every step keeps assigned pages and defined apertures disjoint. -/
def Obligations.RangesLawKept : Prop :=
  ∀ s t : State, RangesLaw s → step s = .next t → RangesLaw t

/-- R15, R16: the conditions of R15 stay true of a stream while it is RUNNING or STOPPING. -/
def Obligations.GeometryLawKept : Prop :=
  ∀ s t : State, RingLaw s → GeometryLaw s → step s = .next t → GeometryLaw t

/-- R128: every step keeps what a port presents free of an older undelivered entry of its transaction ID. -/
def Obligations.OrderLawKept : Prop :=
  ∀ s t : State, TableLaw s → OrderLaw s → step s = .next t → OrderLaw t

/-- Every step keeps a safe state safe, the laws that `Safe` joins together, and, while frame numbers can be compared (R43),
keeps the order of frames of R59 and R54. (Three things in it are the model's choices: that the fields of a FREE entry are
blank, in EntryLaw, log 11; that waiting requests stand in links.waiting, log 5, and are tested again within the event that
can let them in, log 23, both in WaitingLaw. The queue that a step takes its event from is log 1.) -/
def Obligations.SafeKept : Prop :=
  ∀ s t : State, Safe s → step s = .next t → Safe t ∧ (FramesRecent s → FramesInOrder s → FramesInOrder t)

/-- The part right after a pin reset is safe: State.reset has the laws that `Safe` joins, the order of responses and the
order of frames. (That RESETN and chip select are high again at State.reset is the model's choice, log 9; so is that the
fields of its FREE entries are blank, in EntryLaw, log 11, and that no request waits in links.waiting, in WaitingLaw,
log 5.) -/
def Obligations.ResetIsSafe : Prop := Safe State.reset ∧ OrderLaw State.reset ∧ FramesInOrder State.reset

/-- 00_scope.md section 1: a consumer never reads a page that is still being written: in every state that a run reaches, a
held page is PUBLISHED, is no stream's fill page, and no write directed to it is in flight. (A run takes any well-formed event
at any time; the queue they come from and that no word spells one are the model's, logs 1 and 2, and so are the levels of
RESETN and chip select at State.reset, where a run starts, log 9.) -/
def Obligations.NoConsumerReadsAPageBeingWritten : Prop :=
  ∀ s : State, Reachable s → ∀ (n : StreamId) (x : SlotId) (q : PageId), (s.slot n x).held = some q →
    (s.page q).stage = .published ∧ (s.page q).writeCount = 0 ∧ (∀ m, (s.stream m).fillPage ≠ some q)
      ∧ ∀ e, (s.entry e).kind = .write → (s.entry e).target.map (·.page) = some q → (s.entry e).inFlight = false

end Statements
end

