-- ==== Sys2Proof/Laws/Tables.lean ====
section
/-! SUPPORT. Reading a table after an update: setRow and mapAll. -/

namespace Sys2Proof.Machine

theorem get_eq_getElem {α : Type} {n : Nat} (t : Vector α n) (i : Fin n) : t.get i = t[i.val] := rfl

@[simp] theorem setRow_get_same {α : Type} {n : Nat} (t : Vector α n) (i : Fin n) (x : α) : (setRow t i x).get i = x := by
  rw [get_eq_getElem, setRow]
  exact Vector.getElem_set_self _

@[simp] theorem setRow_get_other {α : Type} {n : Nat} (t : Vector α n) {i j : Fin n} (h : j ≠ i) (x : α) :
    (setRow t i x).get j = t.get j := by
  rw [get_eq_getElem, get_eq_getElem, setRow]
  exact Vector.getElem_set_ne _ _ fun e => h (Fin.ext e.symm)

theorem setRow_get {α : Type} {n : Nat} (t : Vector α n) (i j : Fin n) (x : α) :
    (setRow t i x).get j = if j = i then x else t.get j := by
  by_cases h : j = i
  · subst h; simp
  · simp [h]

@[simp] theorem mapAll_get {α : Type} {n : Nat} (t : Vector α n) (f : Fin n → α → α) (i : Fin n) :
    (mapAll t f).get i = f i (t.get i) := by
  rw [get_eq_getElem]
  simp [mapAll, get_eq_getElem]

theorem vector_ext_get {α : Type} {n : Nat} {t u : Vector α n} (h : ∀ i : Fin n, t.get i = u.get i) : t = u := by
  apply Vector.ext
  intro i hi
  exact h ⟨i, hi⟩

@[simp] theorem setRow_self {α : Type} {n : Nat} (t : Vector α n) (i : Fin n) : setRow t i (t.get i) = t := by
  apply vector_ext_get
  intro j
  rw [setRow_get]
  split
  · next h => rw [h]
  · rfl

@[simp] theorem replicate_get {α : Type} {n : Nat} (x : α) (i : Fin n) : (Vector.replicate n x).get i = x := by
  rw [get_eq_getElem]
  simp

end Sys2Proof.Machine
end

