-- ==== Sys2Proof/Laws/State.lean ====
section
/-! SUPPORT. One lemma per field of State for each table update, true by rfl; and the row that an update changes. -/

namespace Sys2Proof.Machine

variable (s : State)

/-! modStream -/

@[simp] theorem modStream_pages (i : StreamId) (f : Stream → Stream) : (s.modStream i f).pages = s.pages := rfl
@[simp] theorem modStream_entries (i : StreamId) (f : Stream → Stream) : (s.modStream i f).entries = s.entries := rfl
@[simp] theorem modStream_ports (i : StreamId) (f : Stream → Stream) : (s.modStream i f).ports = s.ports := rfl
@[simp] theorem modStream_pointer (i : StreamId) (f : Stream → Stream) : (s.modStream i f).pointer = s.pointer := rfl
@[simp] theorem modStream_indications (i : StreamId) (f : Stream → Stream) : (s.modStream i f).indications = s.indications := rfl
@[simp] theorem modStream_datapath (i : StreamId) (f : Stream → Stream) : (s.modStream i f).datapath = s.datapath := rfl
@[simp] theorem modStream_stray (i : StreamId) (f : Stream → Stream) : (s.modStream i f).stray = s.stray := rfl
@[simp] theorem modStream_events (i : StreamId) (f : Stream → Stream) : (s.modStream i f).events = s.events := rfl
@[simp] theorem modStream_watermark (i : StreamId) (f : Stream → Stream) : (s.modStream i f).watermark = s.watermark := rfl
@[simp] theorem modStream_kindMask (i : StreamId) (f : Stream → Stream) : (s.modStream i f).kindMask = s.kindMask := rfl
@[simp] theorem modStream_lost (i : StreamId) (f : Stream → Stream) : (s.modStream i f).lost = s.lost := rfl
@[simp] theorem modStream_attn (i : StreamId) (f : Stream → Stream) : (s.modStream i f).attn = s.attn := rfl
@[simp] theorem modStream_response (i : StreamId) (f : Stream → Stream) : (s.modStream i f).response = s.response := rfl
@[simp] theorem modStream_rx (i : StreamId) (f : Stream → Stream) : (s.modStream i f).rx = s.rx := rfl
@[simp] theorem modStream_awaitRise (i : StreamId) (f : Stream → Stream) : (s.modStream i f).awaitRise = s.awaitRise := rfl
@[simp] theorem modStream_mdo (i : StreamId) (f : Stream → Stream) : (s.modStream i f).mdo = s.mdo := rfl
@[simp] theorem modStream_resetn (i : StreamId) (f : Stream → Stream) : (s.modStream i f).resetn = s.resetn := rfl
@[simp] theorem modStream_links (i : StreamId) (f : Stream → Stream) : (s.modStream i f).links = s.links := rfl
@[simp] theorem modStream_pending (i : StreamId) (f : Stream → Stream) : (s.modStream i f).pending = s.pending := rfl
@[simp] theorem modStream_page (i : StreamId) (f : Stream → Stream) (j : PageId) : (s.modStream i f).page j = s.page j := rfl
@[simp] theorem modStream_entry (i : StreamId) (f : Stream → Stream) (j : EntryId) : (s.modStream i f).entry j = s.entry j := rfl
@[simp] theorem modStream_port (i : StreamId) (f : Stream → Stream) (j : PortId) : (s.modStream i f).port j = s.port j := rfl
@[simp] theorem modStream_stream_same (i : StreamId) (f : Stream → Stream) : (s.modStream i f).stream i = f (s.stream i) := by
  simp [State.modStream, State.stream]
@[simp] theorem modStream_stream_other {i j : StreamId} (h : j ≠ i) (f : Stream → Stream) : (s.modStream i f).stream j = s.stream j := by
  simp [State.modStream, State.stream, h]
theorem modStream_stream (i j : StreamId) (f : Stream → Stream) :
    (s.modStream i f).stream j = if j = i then f (s.stream i) else s.stream j := by
  by_cases h : j = i
  · subst h; simp
  · simp [h]

/-! modPage -/

@[simp] theorem modPage_streams (i : PageId) (f : Page → Page) : (s.modPage i f).streams = s.streams := rfl
@[simp] theorem modPage_entries (i : PageId) (f : Page → Page) : (s.modPage i f).entries = s.entries := rfl
@[simp] theorem modPage_ports (i : PageId) (f : Page → Page) : (s.modPage i f).ports = s.ports := rfl
@[simp] theorem modPage_pointer (i : PageId) (f : Page → Page) : (s.modPage i f).pointer = s.pointer := rfl
@[simp] theorem modPage_indications (i : PageId) (f : Page → Page) : (s.modPage i f).indications = s.indications := rfl
@[simp] theorem modPage_datapath (i : PageId) (f : Page → Page) : (s.modPage i f).datapath = s.datapath := rfl
@[simp] theorem modPage_stray (i : PageId) (f : Page → Page) : (s.modPage i f).stray = s.stray := rfl
@[simp] theorem modPage_events (i : PageId) (f : Page → Page) : (s.modPage i f).events = s.events := rfl
@[simp] theorem modPage_watermark (i : PageId) (f : Page → Page) : (s.modPage i f).watermark = s.watermark := rfl
@[simp] theorem modPage_kindMask (i : PageId) (f : Page → Page) : (s.modPage i f).kindMask = s.kindMask := rfl
@[simp] theorem modPage_lost (i : PageId) (f : Page → Page) : (s.modPage i f).lost = s.lost := rfl
@[simp] theorem modPage_attn (i : PageId) (f : Page → Page) : (s.modPage i f).attn = s.attn := rfl
@[simp] theorem modPage_response (i : PageId) (f : Page → Page) : (s.modPage i f).response = s.response := rfl
@[simp] theorem modPage_rx (i : PageId) (f : Page → Page) : (s.modPage i f).rx = s.rx := rfl
@[simp] theorem modPage_awaitRise (i : PageId) (f : Page → Page) : (s.modPage i f).awaitRise = s.awaitRise := rfl
@[simp] theorem modPage_mdo (i : PageId) (f : Page → Page) : (s.modPage i f).mdo = s.mdo := rfl
@[simp] theorem modPage_resetn (i : PageId) (f : Page → Page) : (s.modPage i f).resetn = s.resetn := rfl
@[simp] theorem modPage_links (i : PageId) (f : Page → Page) : (s.modPage i f).links = s.links := rfl
@[simp] theorem modPage_pending (i : PageId) (f : Page → Page) : (s.modPage i f).pending = s.pending := rfl
@[simp] theorem modPage_stream (i : PageId) (f : Page → Page) (j : StreamId) : (s.modPage i f).stream j = s.stream j := rfl
@[simp] theorem modPage_entry (i : PageId) (f : Page → Page) (j : EntryId) : (s.modPage i f).entry j = s.entry j := rfl
@[simp] theorem modPage_port (i : PageId) (f : Page → Page) (j : PortId) : (s.modPage i f).port j = s.port j := rfl
@[simp] theorem modPage_page_same (i : PageId) (f : Page → Page) : (s.modPage i f).page i = f (s.page i) := by
  simp [State.modPage, State.page]
@[simp] theorem modPage_page_other {i j : PageId} (h : j ≠ i) (f : Page → Page) : (s.modPage i f).page j = s.page j := by
  simp [State.modPage, State.page, h]
theorem modPage_page (i j : PageId) (f : Page → Page) :
    (s.modPage i f).page j = if j = i then f (s.page i) else s.page j := by
  by_cases h : j = i
  · subst h; simp
  · simp [h]

/-! modEntry -/

@[simp] theorem modEntry_streams (i : EntryId) (f : Entry → Entry) : (s.modEntry i f).streams = s.streams := rfl
@[simp] theorem modEntry_pages (i : EntryId) (f : Entry → Entry) : (s.modEntry i f).pages = s.pages := rfl
@[simp] theorem modEntry_ports (i : EntryId) (f : Entry → Entry) : (s.modEntry i f).ports = s.ports := rfl
@[simp] theorem modEntry_pointer (i : EntryId) (f : Entry → Entry) : (s.modEntry i f).pointer = s.pointer := rfl
@[simp] theorem modEntry_indications (i : EntryId) (f : Entry → Entry) : (s.modEntry i f).indications = s.indications := rfl
@[simp] theorem modEntry_datapath (i : EntryId) (f : Entry → Entry) : (s.modEntry i f).datapath = s.datapath := rfl
@[simp] theorem modEntry_stray (i : EntryId) (f : Entry → Entry) : (s.modEntry i f).stray = s.stray := rfl
@[simp] theorem modEntry_events (i : EntryId) (f : Entry → Entry) : (s.modEntry i f).events = s.events := rfl
@[simp] theorem modEntry_watermark (i : EntryId) (f : Entry → Entry) : (s.modEntry i f).watermark = s.watermark := rfl
@[simp] theorem modEntry_kindMask (i : EntryId) (f : Entry → Entry) : (s.modEntry i f).kindMask = s.kindMask := rfl
@[simp] theorem modEntry_lost (i : EntryId) (f : Entry → Entry) : (s.modEntry i f).lost = s.lost := rfl
@[simp] theorem modEntry_attn (i : EntryId) (f : Entry → Entry) : (s.modEntry i f).attn = s.attn := rfl
@[simp] theorem modEntry_response (i : EntryId) (f : Entry → Entry) : (s.modEntry i f).response = s.response := rfl
@[simp] theorem modEntry_rx (i : EntryId) (f : Entry → Entry) : (s.modEntry i f).rx = s.rx := rfl
@[simp] theorem modEntry_awaitRise (i : EntryId) (f : Entry → Entry) : (s.modEntry i f).awaitRise = s.awaitRise := rfl
@[simp] theorem modEntry_mdo (i : EntryId) (f : Entry → Entry) : (s.modEntry i f).mdo = s.mdo := rfl
@[simp] theorem modEntry_resetn (i : EntryId) (f : Entry → Entry) : (s.modEntry i f).resetn = s.resetn := rfl
@[simp] theorem modEntry_links (i : EntryId) (f : Entry → Entry) : (s.modEntry i f).links = s.links := rfl
@[simp] theorem modEntry_pending (i : EntryId) (f : Entry → Entry) : (s.modEntry i f).pending = s.pending := rfl
@[simp] theorem modEntry_stream (i : EntryId) (f : Entry → Entry) (j : StreamId) : (s.modEntry i f).stream j = s.stream j := rfl
@[simp] theorem modEntry_page (i : EntryId) (f : Entry → Entry) (j : PageId) : (s.modEntry i f).page j = s.page j := rfl
@[simp] theorem modEntry_port (i : EntryId) (f : Entry → Entry) (j : PortId) : (s.modEntry i f).port j = s.port j := rfl
@[simp] theorem modEntry_entry_same (i : EntryId) (f : Entry → Entry) : (s.modEntry i f).entry i = f (s.entry i) := by
  simp [State.modEntry, State.entry]
@[simp] theorem modEntry_entry_other {i j : EntryId} (h : j ≠ i) (f : Entry → Entry) : (s.modEntry i f).entry j = s.entry j := by
  simp [State.modEntry, State.entry, h]
theorem modEntry_entry (i j : EntryId) (f : Entry → Entry) :
    (s.modEntry i f).entry j = if j = i then f (s.entry i) else s.entry j := by
  by_cases h : j = i
  · subst h; simp
  · simp [h]

/-! modPort -/

@[simp] theorem modPort_streams (i : PortId) (f : Port → Port) : (s.modPort i f).streams = s.streams := rfl
@[simp] theorem modPort_pages (i : PortId) (f : Port → Port) : (s.modPort i f).pages = s.pages := rfl
@[simp] theorem modPort_entries (i : PortId) (f : Port → Port) : (s.modPort i f).entries = s.entries := rfl
@[simp] theorem modPort_pointer (i : PortId) (f : Port → Port) : (s.modPort i f).pointer = s.pointer := rfl
@[simp] theorem modPort_indications (i : PortId) (f : Port → Port) : (s.modPort i f).indications = s.indications := rfl
@[simp] theorem modPort_datapath (i : PortId) (f : Port → Port) : (s.modPort i f).datapath = s.datapath := rfl
@[simp] theorem modPort_stray (i : PortId) (f : Port → Port) : (s.modPort i f).stray = s.stray := rfl
@[simp] theorem modPort_events (i : PortId) (f : Port → Port) : (s.modPort i f).events = s.events := rfl
@[simp] theorem modPort_watermark (i : PortId) (f : Port → Port) : (s.modPort i f).watermark = s.watermark := rfl
@[simp] theorem modPort_kindMask (i : PortId) (f : Port → Port) : (s.modPort i f).kindMask = s.kindMask := rfl
@[simp] theorem modPort_lost (i : PortId) (f : Port → Port) : (s.modPort i f).lost = s.lost := rfl
@[simp] theorem modPort_attn (i : PortId) (f : Port → Port) : (s.modPort i f).attn = s.attn := rfl
@[simp] theorem modPort_response (i : PortId) (f : Port → Port) : (s.modPort i f).response = s.response := rfl
@[simp] theorem modPort_rx (i : PortId) (f : Port → Port) : (s.modPort i f).rx = s.rx := rfl
@[simp] theorem modPort_awaitRise (i : PortId) (f : Port → Port) : (s.modPort i f).awaitRise = s.awaitRise := rfl
@[simp] theorem modPort_mdo (i : PortId) (f : Port → Port) : (s.modPort i f).mdo = s.mdo := rfl
@[simp] theorem modPort_resetn (i : PortId) (f : Port → Port) : (s.modPort i f).resetn = s.resetn := rfl
@[simp] theorem modPort_links (i : PortId) (f : Port → Port) : (s.modPort i f).links = s.links := rfl
@[simp] theorem modPort_pending (i : PortId) (f : Port → Port) : (s.modPort i f).pending = s.pending := rfl
@[simp] theorem modPort_stream (i : PortId) (f : Port → Port) (j : StreamId) : (s.modPort i f).stream j = s.stream j := rfl
@[simp] theorem modPort_page (i : PortId) (f : Port → Port) (j : PageId) : (s.modPort i f).page j = s.page j := rfl
@[simp] theorem modPort_entry (i : PortId) (f : Port → Port) (j : EntryId) : (s.modPort i f).entry j = s.entry j := rfl
@[simp] theorem modPort_port_same (i : PortId) (f : Port → Port) : (s.modPort i f).port i = f (s.port i) := by
  simp [State.modPort, State.port]
@[simp] theorem modPort_port_other {i j : PortId} (h : j ≠ i) (f : Port → Port) : (s.modPort i f).port j = s.port j := by
  simp [State.modPort, State.port, h]
theorem modPort_port (i j : PortId) (f : Port → Port) :
    (s.modPort i f).port j = if j = i then f (s.port i) else s.port j := by
  by_cases h : j = i
  · subst h; simp
  · simp [h]

/-! modSlot -/

@[simp] theorem modSlot_pages (n : StreamId) (x : SlotId) (f : Slot → Slot) : (s.modSlot n x f).pages = s.pages := rfl
@[simp] theorem modSlot_entries (n : StreamId) (x : SlotId) (f : Slot → Slot) : (s.modSlot n x f).entries = s.entries := rfl
@[simp] theorem modSlot_ports (n : StreamId) (x : SlotId) (f : Slot → Slot) : (s.modSlot n x f).ports = s.ports := rfl
@[simp] theorem modSlot_pointer (n : StreamId) (x : SlotId) (f : Slot → Slot) : (s.modSlot n x f).pointer = s.pointer := rfl
@[simp] theorem modSlot_indications (n : StreamId) (x : SlotId) (f : Slot → Slot) : (s.modSlot n x f).indications = s.indications := rfl
@[simp] theorem modSlot_datapath (n : StreamId) (x : SlotId) (f : Slot → Slot) : (s.modSlot n x f).datapath = s.datapath := rfl
@[simp] theorem modSlot_stray (n : StreamId) (x : SlotId) (f : Slot → Slot) : (s.modSlot n x f).stray = s.stray := rfl
@[simp] theorem modSlot_events (n : StreamId) (x : SlotId) (f : Slot → Slot) : (s.modSlot n x f).events = s.events := rfl
@[simp] theorem modSlot_watermark (n : StreamId) (x : SlotId) (f : Slot → Slot) : (s.modSlot n x f).watermark = s.watermark := rfl
@[simp] theorem modSlot_kindMask (n : StreamId) (x : SlotId) (f : Slot → Slot) : (s.modSlot n x f).kindMask = s.kindMask := rfl
@[simp] theorem modSlot_lost (n : StreamId) (x : SlotId) (f : Slot → Slot) : (s.modSlot n x f).lost = s.lost := rfl
@[simp] theorem modSlot_attn (n : StreamId) (x : SlotId) (f : Slot → Slot) : (s.modSlot n x f).attn = s.attn := rfl
@[simp] theorem modSlot_response (n : StreamId) (x : SlotId) (f : Slot → Slot) : (s.modSlot n x f).response = s.response := rfl
@[simp] theorem modSlot_rx (n : StreamId) (x : SlotId) (f : Slot → Slot) : (s.modSlot n x f).rx = s.rx := rfl
@[simp] theorem modSlot_awaitRise (n : StreamId) (x : SlotId) (f : Slot → Slot) : (s.modSlot n x f).awaitRise = s.awaitRise := rfl
@[simp] theorem modSlot_mdo (n : StreamId) (x : SlotId) (f : Slot → Slot) : (s.modSlot n x f).mdo = s.mdo := rfl
@[simp] theorem modSlot_resetn (n : StreamId) (x : SlotId) (f : Slot → Slot) : (s.modSlot n x f).resetn = s.resetn := rfl
@[simp] theorem modSlot_links (n : StreamId) (x : SlotId) (f : Slot → Slot) : (s.modSlot n x f).links = s.links := rfl
@[simp] theorem modSlot_pending (n : StreamId) (x : SlotId) (f : Slot → Slot) : (s.modSlot n x f).pending = s.pending := rfl
@[simp] theorem modSlot_page (n : StreamId) (x : SlotId) (f : Slot → Slot) (j : PageId) : (s.modSlot n x f).page j = s.page j := rfl
@[simp] theorem modSlot_entry (n : StreamId) (x : SlotId) (f : Slot → Slot) (j : EntryId) : (s.modSlot n x f).entry j = s.entry j := rfl
@[simp] theorem modSlot_port (n : StreamId) (x : SlotId) (f : Slot → Slot) (j : PortId) : (s.modSlot n x f).port j = s.port j := rfl
@[simp] theorem modSlot_stream_same (n : StreamId) (x : SlotId) (f : Slot → Slot) :
    (s.modSlot n x f).stream n = (s.stream n).modSlot x f := by
  simp [State.modSlot]
@[simp] theorem modSlot_stream_other {n m : StreamId} (h : m ≠ n) (x : SlotId) (f : Slot → Slot) :
    (s.modSlot n x f).stream m = s.stream m := by
  simp [State.modSlot, h]

/-! Stream.modSlot -/

@[simp] theorem Stream.modSlot_state (st : Stream) (x : SlotId) (f : Slot → Slot) : (st.modSlot x f).state = st.state := by
  cases x <;> rfl
@[simp] theorem Stream.modSlot_base (st : Stream) (x : SlotId) (f : Slot → Slot) : (st.modSlot x f).base = st.base := by
  cases x <;> rfl
@[simp] theorem Stream.modSlot_lines (st : Stream) (x : SlotId) (f : Slot → Slot) : (st.modSlot x f).lines = st.lines := by
  cases x <;> rfl
@[simp] theorem Stream.modSlot_lineLength (st : Stream) (x : SlotId) (f : Slot → Slot) : (st.modSlot x f).lineLength = st.lineLength := by
  cases x <;> rfl
@[simp] theorem Stream.modSlot_stride (st : Stream) (x : SlotId) (f : Slot → Slot) : (st.modSlot x f).stride = st.stride := by
  cases x <;> rfl
@[simp] theorem Stream.modSlot_transform (st : Stream) (x : SlotId) (f : Slot → Slot) : (st.modSlot x f).transform = st.transform := by
  cases x <;> rfl
@[simp] theorem Stream.modSlot_producerTag (st : Stream) (x : SlotId) (f : Slot → Slot) : (st.modSlot x f).producerTag = st.producerTag := by
  cases x <;> rfl
@[simp] theorem Stream.modSlot_takePolicy (st : Stream) (x : SlotId) (f : Slot → Slot) : (st.modSlot x f).takePolicy = st.takePolicy := by
  cases x <;> rfl
@[simp] theorem Stream.modSlot_poolPolicy (st : Stream) (x : SlotId) (f : Slot → Slot) : (st.modSlot x f).poolPolicy = st.poolPolicy := by
  cases x <;> rfl
@[simp] theorem Stream.modSlot_fill (st : Stream) (x : SlotId) (f : Slot → Slot) : (st.modSlot x f).fill = st.fill := by
  cases x <;> rfl
@[simp] theorem Stream.modSlot_freeze (st : Stream) (x : SlotId) (f : Slot → Slot) : (st.modSlot x f).freeze = st.freeze := by
  cases x <;> rfl
@[simp] theorem Stream.modSlot_ring (st : Stream) (x : SlotId) (f : Slot → Slot) : (st.modSlot x f).ring = st.ring := by
  cases x <;> rfl
@[simp] theorem Stream.modSlot_ready (st : Stream) (x : SlotId) (f : Slot → Slot) : (st.modSlot x f).ready = st.ready := by
  cases x <;> rfl
@[simp] theorem Stream.modSlot_fillPage (st : Stream) (x : SlotId) (f : Slot → Slot) : (st.modSlot x f).fillPage = st.fillPage := by
  cases x <;> rfl
@[simp] theorem Stream.modSlot_starved (st : Stream) (x : SlotId) (f : Slot → Slot) : (st.modSlot x f).starved = st.starved := by
  cases x <;> rfl
@[simp] theorem Stream.modSlot_starvedFrames (st : Stream) (x : SlotId) (f : Slot → Slot) : (st.modSlot x f).starvedFrames = st.starvedFrames := by
  cases x <;> rfl
@[simp] theorem Stream.modSlot_parity (st : Stream) (x : SlotId) (f : Slot → Slot) : (st.modSlot x f).parity = st.parity := by
  cases x <;> rfl
@[simp] theorem Stream.modSlot_nextFrame (st : Stream) (x : SlotId) (f : Slot → Slot) : (st.modSlot x f).nextFrame = st.nextFrame := by
  cases x <;> rfl
@[simp] theorem Stream.modSlot_closed (st : Stream) (x : SlotId) (f : Slot → Slot) : (st.modSlot x f).closed = st.closed := by
  cases x <;> rfl
@[simp] theorem Stream.modSlot_heldFrames (st : Stream) (x : SlotId) (f : Slot → Slot) : (st.modSlot x f).heldFrames = st.heldFrames := by
  cases x <;> rfl
@[simp] theorem Stream.modSlot_sunk (st : Stream) (x : SlotId) (f : Slot → Slot) : (st.modSlot x f).sunk = st.sunk := by
  cases x <;> rfl
@[simp] theorem Stream.modSlot_published (st : Stream) (x : SlotId) (f : Slot → Slot) : (st.modSlot x f).published = st.published := by
  cases x <;> rfl
@[simp] theorem Stream.modSlot_damaged (st : Stream) (x : SlotId) (f : Slot → Slot) : (st.modSlot x f).damaged = st.damaged := by
  cases x <;> rfl
@[simp] theorem Stream.modSlot_dropped (st : Stream) (x : SlotId) (f : Slot → Slot) : (st.modSlot x f).dropped = st.dropped := by
  cases x <;> rfl
@[simp] theorem Stream.modSlot_slot_same (st : Stream) (x : SlotId) (f : Slot → Slot) :
    (st.modSlot x f).slot x = f (st.slot x) := by
  cases x <;> rfl
@[simp] theorem Stream.modSlot_slot_other (st : Stream) {x y : SlotId} (h : y ≠ x) (f : Slot → Slot) :
    (st.modSlot x f).slot y = st.slot y := by
  cases x <;> cases y <;> first | rfl | exact absurd rfl h
@[simp] theorem modSlot_slot_same (n : StreamId) (x : SlotId) (f : Slot → Slot) :
    (s.modSlot n x f).slot n x = f (s.slot n x) := by
  simp [State.slot]

/-! Page.setHolder -/

@[simp] theorem Page.setHolder_stage (pg : Page) (x : SlotId) (v : Bool) : (pg.setHolder x v).stage = pg.stage := by
  cases x <;> rfl
@[simp] theorem Page.setHolder_owner (pg : Page) (x : SlotId) (v : Bool) : (pg.setHolder x v).owner = pg.owner := by
  cases x <;> rfl
@[simp] theorem Page.setHolder_base (pg : Page) (x : SlotId) (v : Bool) : (pg.setHolder x v).base = pg.base := by
  cases x <;> rfl
@[simp] theorem Page.setHolder_size (pg : Page) (x : SlotId) (v : Bool) : (pg.setHolder x v).size = pg.size := by
  cases x <;> rfl
@[simp] theorem Page.setHolder_frame (pg : Page) (x : SlotId) (v : Bool) : (pg.setHolder x v).frame = pg.frame := by
  cases x <;> rfl
@[simp] theorem Page.setHolder_writeCount (pg : Page) (x : SlotId) (v : Bool) : (pg.setHolder x v).writeCount = pg.writeCount := by
  cases x <;> rfl
@[simp] theorem Page.setHolder_readCount (pg : Page) (x : SlotId) (v : Bool) : (pg.setHolder x v).readCount = pg.readCount := by
  cases x <;> rfl
@[simp] theorem Page.setHolder_damaged (pg : Page) (x : SlotId) (v : Bool) : (pg.setHolder x v).damaged = pg.damaged := by
  cases x <;> rfl
@[simp] theorem Page.setHolder_holds_same (pg : Page) (x : SlotId) (v : Bool) : (pg.setHolder x v).holds x = v := by
  cases x <;> rfl
@[simp] theorem Page.setHolder_holds_other (pg : Page) {x y : SlotId} (h : y ≠ x) (v : Bool) :
    (pg.setHolder x v).holds y = pg.holds y := by
  cases x <;> cases y <;> first | rfl | exact absurd rfl h

end Sys2Proof.Machine
end

