-- ==== Sys2Proof/Laws/Raise.lean ====
section
/-! SUPPORT. What raising an event can do (R152), and the frames of the rotation controller and of the traffic. -/

namespace Sys2Proof.Machine

/-! ## Frames -/

/-- What an event of the rotation controller leaves as it was: everything but streams, pages, records, lost count, ATTN. -/
structure RotationFrame (s t : State) : Prop where
  entries : t.entries = s.entries
  ports : t.ports = s.ports
  pointer : t.pointer = s.pointer
  indications : t.indications = s.indications
  datapath : t.datapath = s.datapath
  stray : t.stray = s.stray
  watermark : t.watermark = s.watermark
  kindMask : t.kindMask = s.kindMask
  response : t.response = s.response
  rx : t.rx = s.rx
  awaitRise : t.awaitRise = s.awaitRise
  mdo : t.mdo = s.mdo
  resetn : t.resetn = s.resetn
  links : t.links = s.links
  pending : t.pending = s.pending

theorem RotationFrame.refl (s : State) : RotationFrame s s := by constructor <;> rfl

theorem RotationFrame.trans {s t u : State} (h : RotationFrame s t) (k : RotationFrame t u) : RotationFrame s u :=
  ⟨k.entries.trans h.entries, k.ports.trans h.ports, k.pointer.trans h.pointer, k.indications.trans h.indications,
    k.datapath.trans h.datapath, k.stray.trans h.stray, k.watermark.trans h.watermark, k.kindMask.trans h.kindMask,
    k.response.trans h.response, k.rx.trans h.rx, k.awaitRise.trans h.awaitRise, k.mdo.trans h.mdo,
    k.resetn.trans h.resetn, k.links.trans h.links, k.pending.trans h.pending⟩

/-- What an event of the links leaves as it was: the settings of the event queue, the management port and what it has
driven, RESETN, the queue of events. -/
structure TrafficFrame (s t : State) : Prop where
  watermark : t.watermark = s.watermark
  kindMask : t.kindMask = s.kindMask
  response : t.response = s.response
  rx : t.rx = s.rx
  awaitRise : t.awaitRise = s.awaitRise
  mdo : t.mdo = s.mdo
  resetn : t.resetn = s.resetn
  mdoBits : t.links.mdoBits = s.links.mdoBits
  pending : t.pending = s.pending

theorem TrafficFrame.refl (s : State) : TrafficFrame s s := by constructor <;> rfl

theorem TrafficFrame.trans {s t u : State} (h : TrafficFrame s t) (k : TrafficFrame t u) : TrafficFrame s u :=
  ⟨k.watermark.trans h.watermark, k.kindMask.trans h.kindMask, k.response.trans h.response, k.rx.trans h.rx,
    k.awaitRise.trans h.awaitRise, k.mdo.trans h.mdo, k.resetn.trans h.resetn, k.mdoBits.trans h.mdoBits,
    k.pending.trans h.pending⟩

theorem RotationFrame.traffic {s t : State} (h : RotationFrame s t) : TrafficFrame s t :=
  ⟨h.watermark, h.kindMask, h.response, h.rx, h.awaitRise, h.mdo, h.resetn, congrArg Links.mdoBits h.links, h.pending⟩

theorem modStream_frame (s : State) (n : StreamId) (f : Stream → Stream) : RotationFrame s (s.modStream n f) := by
  constructor <;> rfl

theorem modPage_frame (s : State) (p : PageId) (f : Page → Page) : RotationFrame s (s.modPage p f) := by
  constructor <;> rfl

theorem modSlot_frame (s : State) (n : StreamId) (x : SlotId) (f : Slot → Slot) : RotationFrame s (s.modSlot n x f) := by
  constructor <;> rfl

theorem modEntry_frame (s : State) (e : EntryId) (f : Entry → Entry) : TrafficFrame s (s.modEntry e f) := by
  constructor <;> rfl

theorem modPort_frame (s : State) (p : PortId) (f : Port → Port) : TrafficFrame s (s.modPort p f) := by
  constructor <;> rfl

/-! ## Raising (R152) -/

/-- The three ways of R152. -/
theorem raise_cases (s : State) (r : EventRecord) :
    (s.kindEnabled r.kind = false ∧ s.raise r = s)
      ∨ (s.kindEnabled r.kind = true ∧ s.events.length < 32 ∧
          s.raise r = { s with events := s.events ++ [r], attn := attnLevel (s.events.length + 1) s.watermark })
      ∨ (s.kindEnabled r.kind = true ∧ 32 ≤ s.events.length ∧
          s.raise r = { s with lost := min (s.lost + 1) 65535 }) := by
  unfold State.raise
  cases hk : s.kindEnabled r.kind
  · exact Or.inl ⟨rfl, by simp⟩
  · by_cases hl : s.events.length < 32
    · exact Or.inr (Or.inl ⟨rfl, hl, by simp [hl]⟩)
    · exact Or.inr (Or.inr ⟨rfl, by omega, by simp [hl]⟩)

theorem raise_frame (s : State) (r : EventRecord) : RotationFrame s (s.raise r) := by
  rcases raise_cases s r with ⟨_, h⟩ | ⟨_, _, h⟩ | ⟨_, _, h⟩ <;> rw [h] <;> constructor <;> rfl

@[simp] theorem raise_streams (s : State) (r : EventRecord) : (s.raise r).streams = s.streams := by
  rcases raise_cases s r with ⟨_, h⟩ | ⟨_, _, h⟩ | ⟨_, _, h⟩ <;> rw [h]

@[simp] theorem raise_pages (s : State) (r : EventRecord) : (s.raise r).pages = s.pages := by
  rcases raise_cases s r with ⟨_, h⟩ | ⟨_, _, h⟩ | ⟨_, _, h⟩ <;> rw [h]

@[simp] theorem raise_stream (s : State) (r : EventRecord) (n : StreamId) : (s.raise r).stream n = s.stream n := by
  simp [State.stream]

@[simp] theorem raise_page (s : State) (r : EventRecord) (p : PageId) : (s.raise r).page p = s.page p := by
  simp [State.page]

@[simp] theorem raise_slot (s : State) (r : EventRecord) (n : StreamId) (x : SlotId) :
    (s.raise r).slot n x = s.slot n x := by
  simp [State.slot]

@[simp] theorem raise_entries (s : State) (r : EventRecord) : (s.raise r).entries = s.entries := (raise_frame s r).entries
@[simp] theorem raise_ports (s : State) (r : EventRecord) : (s.raise r).ports = s.ports := (raise_frame s r).ports
@[simp] theorem raise_pointer (s : State) (r : EventRecord) : (s.raise r).pointer = s.pointer := (raise_frame s r).pointer
@[simp] theorem raise_indications (s : State) (r : EventRecord) : (s.raise r).indications = s.indications :=
  (raise_frame s r).indications
@[simp] theorem raise_datapath (s : State) (r : EventRecord) : (s.raise r).datapath = s.datapath :=
  (raise_frame s r).datapath
@[simp] theorem raise_stray (s : State) (r : EventRecord) : (s.raise r).stray = s.stray := (raise_frame s r).stray
@[simp] theorem raise_watermark (s : State) (r : EventRecord) : (s.raise r).watermark = s.watermark :=
  (raise_frame s r).watermark
@[simp] theorem raise_kindMask (s : State) (r : EventRecord) : (s.raise r).kindMask = s.kindMask :=
  (raise_frame s r).kindMask
@[simp] theorem raise_response (s : State) (r : EventRecord) : (s.raise r).response = s.response :=
  (raise_frame s r).response
@[simp] theorem raise_rx (s : State) (r : EventRecord) : (s.raise r).rx = s.rx := (raise_frame s r).rx
@[simp] theorem raise_awaitRise (s : State) (r : EventRecord) : (s.raise r).awaitRise = s.awaitRise :=
  (raise_frame s r).awaitRise
@[simp] theorem raise_mdo (s : State) (r : EventRecord) : (s.raise r).mdo = s.mdo := (raise_frame s r).mdo
@[simp] theorem raise_resetn (s : State) (r : EventRecord) : (s.raise r).resetn = s.resetn := (raise_frame s r).resetn
@[simp] theorem raise_links (s : State) (r : EventRecord) : (s.raise r).links = s.links := (raise_frame s r).links
@[simp] theorem raise_pending (s : State) (r : EventRecord) : (s.raise r).pending = s.pending := (raise_frame s r).pending

end Sys2Proof.Machine
end

