-- ==== Sys2Proof/Laws/Rotation.lean ====
section
/-! SUPPORT. What the rotation controller's operations can do: release in full, and the frame of every operation. -/

namespace Sys2Proof.Machine

/-! ## Release (R31) -/

theorem release_page_same (s : State) (p : PageId) : (release p s).page p = (s.page p).released := by
  unfold release
  cases (s.page p).owner <;> simp

theorem release_page_other (s : State) {p q : PageId} (h : q ≠ p) : (release p s).page q = s.page q := by
  unfold release
  cases (s.page p).owner <;> simp [h]

theorem release_stream_owner (s : State) {p : PageId} {n : StreamId} (h : (s.page p).owner = some n) :
    (release p s).stream n = { s.stream n with ready := (s.stream n).ready.filter (· != p) } := by
  unfold release
  rw [h]
  simp

theorem release_stream_other (s : State) {p : PageId} {n : StreamId} (h : (s.page p).owner ≠ some n) :
    (release p s).stream n = s.stream n := by
  unfold release
  cases ho : (s.page p).owner with
  | none => simp
  | some m =>
    have : n ≠ m := fun e => h (by rw [ho, e])
    simp [this]

theorem release_frame (s : State) (p : PageId) : RotationFrame s (release p s) := by
  unfold release
  cases (s.page p).owner with
  | none => exact modPage_frame _ _ _
  | some n => exact (modStream_frame s n _).trans (modPage_frame _ _ _)

/-- A retirement test changes nothing or releases one page that meets the conditions (R76, R78). -/
theorem retireTest_cases (n : StreamId) (s : State) (p : PageId) :
    (retires s n p = false ∧ retireTest n s p = s) ∨ (retires s n p = true ∧ retireTest n s p = release p s) := by
  unfold retireTest
  cases retires s n p <;> simp

theorem retireTest_frame (n : StreamId) (s : State) (p : PageId) : RotationFrame s (retireTest n s p) := by
  rcases retireTest_cases n s p with ⟨_, h⟩ | ⟨_, h⟩ <;> rw [h]
  · exact RotationFrame.refl s
  · exact release_frame s p

theorem retireFold_frame (n : StreamId) (l : List PageId) (s : State) :
    RotationFrame s (l.foldl (retireTest n) s) := by
  induction l generalizing s with
  | nil => exact RotationFrame.refl s
  | cons p rest ih => exact (retireTest_frame n s p).trans (ih _)

theorem retireAll_frame (n : StreamId) (s : State) : RotationFrame s (retireAll n s) := retireFold_frame n _ s

/-! ## Publication (R53 to R57) -/

theorem publish_frame (n : StreamId) (p : PageId) (s : State) : RotationFrame s (publish n p s) :=
  ((modPage_frame s p _).trans (modStream_frame _ n _)).trans (retireAll_frame n _)

theorem discard_frame (n : StreamId) (p : PageId) (s : State) : RotationFrame s (discard n p s) :=
  ((modStream_frame s n _).trans (raise_frame _ _)).trans (release_frame _ p)

theorem chain_frame (fuel : Nat) (n : StreamId) (s : State) : RotationFrame s (chain fuel n s) := by
  induction fuel generalizing s with
  | zero => exact RotationFrame.refl s
  | succ fuel ih =>
    unfold chain
    cases oldestPending s n with
    | none => exact RotationFrame.refl s
    | some p =>
      dsimp only
      split
      · split
        · exact (discard_frame n p s).trans (ih _)
        · exact (publish_frame n p s).trans (ih _)
      · exact RotationFrame.refl s

theorem runChain_frame (n : StreamId) (s : State) : RotationFrame s (runChain n s) := chain_frame _ n s

theorem sealPage_frame (n : StreamId) (p : PageId) (s : State) : RotationFrame s (sealPage n p s) :=
  (modPage_frame s p _).trans (runChain_frame n _)

/-! ## Counts (R29, R30, R93) -/

theorem endStop_frame (n : StreamId) (s : State) : RotationFrame s (endStop n s) := by
  unfold endStop
  split
  · exact (modStream_frame s n _).trans (raise_frame _ _)
  · exact RotationFrame.refl s

theorem examinePage_frame (k : Access) (p : PageId) (s : State) : RotationFrame s (examinePage k p s) := by
  unfold examinePage
  dsimp only
  cases (s.page p).stage <;> dsimp only
  case closing =>
    split
    · cases (s.page p).owner with
      | none => exact RotationFrame.refl s
      | some n => exact sealPage_frame n p s
    · exact RotationFrame.refl s
  case retiring =>
    split
    · cases (s.page p).owner with
      | none => exact modPage_frame s p _
      | some n => exact (modPage_frame s p _).trans (endStop_frame n _)
    · exact RotationFrame.refl s
  all_goals exact RotationFrame.refl s

theorem lowerCount_frame (k : Access) (p : PageId) (s : State) : RotationFrame s (lowerCount k p s) :=
  (modPage_frame s p _).trans (examinePage_frame k p _)

/-! ## Fill pages (R47, R48) -/

theorem makeFill_frame (n : StreamId) (p : PageId) (s : State) : RotationFrame s (makeFill n p s) :=
  (modPage_frame s p _).trans (modStream_frame _ n _)

theorem dropFrame_frame (n : StreamId) (p : PageId) (s : State) : RotationFrame s (dropFrame n p s) :=
  (modStream_frame s n _).trans (raise_frame _ _)

/-- A found fill page is the first FREE ring page, or without one, under RECYCLE, the recycling candidate. -/
theorem seekFill_cases (n : StreamId) (s : State) :
    (∃ p, firstFree s n = some p ∧ seekFill n s = some (p, makeFill n p s))
      ∨ (∃ p, firstFree s n = none ∧ (s.stream n).poolPolicy = .recycle ∧ recycleCandidate s n = some p
          ∧ seekFill n s = some (p, makeFill n p (dropFrame n p s)))
      ∨ (firstFree s n = none ∧ seekFill n s = none
          ∧ ((s.stream n).poolPolicy = .sink ∨ recycleCandidate s n = none)) := by
  unfold seekFill
  cases firstFree s n with
  | some p => exact Or.inl ⟨p, rfl, rfl⟩
  | none =>
    cases hp : (s.stream n).poolPolicy with
    | sink => exact Or.inr (Or.inr ⟨rfl, rfl, Or.inl rfl⟩)
    | recycle =>
      cases hc : recycleCandidate s n with
      | some p => exact Or.inr (Or.inl ⟨p, rfl, rfl, rfl, rfl⟩)
      | none => exact Or.inr (Or.inr ⟨rfl, rfl, Or.inr rfl⟩)

theorem seekFill_frame {n : StreamId} {s t : State} {p : PageId} (h : seekFill n s = some (p, t)) :
    RotationFrame s t := by
  rcases seekFill_cases n s with ⟨q, _, e⟩ | ⟨q, _, _, _, e⟩ | ⟨_, e, _⟩ <;> rw [e] at h
  · cases h
    exact makeFill_frame n p s
  · cases h
    exact (dropFrame_frame n p s).trans (makeFill_frame n p _)
  · cases h

/-! ## Boundaries (R41 to R51) -/

theorem closeFill_frame (n : StreamId) (f : Word32) (s : State) : RotationFrame s (closeFill n f s) := by
  unfold closeFill
  cases (s.stream n).fillPage with
  | none => exact RotationFrame.refl s
  | some p =>
    dsimp only
    split
    · split
      · exact ((modPage_frame s p _).trans (modStream_frame _ n _)).trans (sealPage_frame n p _)
      · exact (modPage_frame s p _).trans (modStream_frame _ n _)
    · exact RotationFrame.refl s

theorem starve_frame (n : StreamId) (s : State) : RotationFrame s (starve n s) :=
  (modStream_frame s n _).trans (raise_frame _ _)

theorem closeFrame_frame (n : StreamId) (f : Word32) (s : State) : RotationFrame s (closeFrame n f s) := by
  unfold closeFrame
  dsimp only
  cases h : seekFill n (closeFill n f s) with
  | none => exact (closeFill_frame n f s).trans (starve_frame n _)
  | some r => exact (closeFill_frame n f s).trans (seekFill_frame h)

theorem resume_frame (n : StreamId) (p : PageId) (s : State) : RotationFrame s (resume n p s) :=
  (modStream_frame s n _).trans (raise_frame _ _)

theorem sinkFrame_frame (n : StreamId) (s : State) : RotationFrame s (sinkFrame n s) := by
  unfold sinkFrame
  dsimp only
  cases h : seekFill n (countSunk n s) with
  | none => exact modStream_frame s n _
  | some r => exact ((modStream_frame s n _).trans (seekFill_frame h)).trans (resume_frame n _ _)

theorem closingBoundary_frame (n : StreamId) (s : State) : RotationFrame s (closingBoundary n s) := by
  unfold closingBoundary
  dsimp only
  split
  · exact (modStream_frame s n _).trans (sinkFrame_frame n _)
  · split
    · exact (modStream_frame s n _).trans (modStream_frame _ n _)
    · exact (modStream_frame s n _).trans (closeFrame_frame n _ _)

/-- A boundary event on a RUNNING stream, before waiting requests are tested again. -/
theorem takenBoundary_frame (n : StreamId) (s : State) : RotationFrame s (takenBoundary n s) := by
  unfold takenBoundary
  dsimp only
  split
  · exact modStream_frame s n _
  · exact closingBoundary_frame n s

/-! ## Takes (R65 to R71) -/

theorem retireAfterTake_frame (n : StreamId) (old : Option PageId) (s : State) :
    RotationFrame s (retireAfterTake n old s) := by
  unfold retireAfterTake
  cases old with
  | none =>
    dsimp only
    split
    · exact RotationFrame.refl s
    · exact retireAll_frame n s
  | some o =>
    dsimp only
    split
    · exact retireTest_frame n s o
    · exact (retireTest_frame n s o).trans (retireAll_frame n _)

theorem leaveHeld_frame (n : StreamId) (x : SlotId) (s : State) : RotationFrame s (leaveHeld n x s) := by
  unfold leaveHeld
  cases (s.slot n x).held with
  | none => exact RotationFrame.refl s
  | some o => exact modPage_frame s o _

theorem successfulTake_frame (n : StreamId) (x : SlotId) (c : PageId) (s : State) :
    RotationFrame s (successfulTake n x c s) :=
  (((leaveHeld_frame n x s).trans (modPage_frame _ c _)).trans (modSlot_frame _ n x _)).trans (retireAfterTake_frame n _ _)

theorem staleTest_frame (n : StreamId) (x : SlotId) (s : State) : RotationFrame s (staleTest n x s) := by
  unfold staleTest
  split
  · exact (raise_frame s _).trans (modSlot_frame _ n x _)
  · exact RotationFrame.refl s

theorem repeatTake_frame (n : StreamId) (x : SlotId) (s : State) : RotationFrame s (repeatTake n x s) :=
  (modSlot_frame s n x _).trans (staleTest_frame n x _)

end Sys2Proof.Machine
end

