-- ==== Sys2Proof/Laws/Traffic.lean ====
section
/-! SUPPORT. What the operations of the transaction table and the scheduler leave alone, and the strobe events with the
re-test behind them. -/

namespace Sys2Proof.Machine

/-! ## Presentation and the end of a quiesce -/

/-- Presentation changes at most what port p presents, and only when it presents nothing (R129). -/
theorem present_cases (p : PortId) (s : State) :
    (∃ e, (s.port p).presented = some e ∧ present p s = s)
      ∨ ((s.port p).presented = none ∧
          present p s = s.modPort p fun po => { po with presented := firstDeliverable s [] po.order }) := by
  unfold present
  cases h : (s.port p).presented with
  | none => exact Or.inr ⟨rfl, rfl⟩
  | some e => exact Or.inl ⟨e, rfl, rfl⟩

theorem present_frame (p : PortId) (s : State) : TrafficFrame s (present p s) := by
  rcases present_cases p s with ⟨_, _, h⟩ | ⟨_, h⟩ <;> rw [h]
  · exact TrafficFrame.refl s
  · exact modPort_frame s p _

theorem present_entries (p : PortId) (s : State) : (present p s).entries = s.entries := by
  rcases present_cases p s with ⟨_, _, h⟩ | ⟨_, h⟩ <;> rw [h]; rfl

theorem present_streams (p : PortId) (s : State) : (present p s).streams = s.streams := by
  rcases present_cases p s with ⟨_, _, h⟩ | ⟨_, h⟩ <;> rw [h]; rfl

theorem present_pages (p : PortId) (s : State) : (present p s).pages = s.pages := by
  rcases present_cases p s with ⟨_, _, h⟩ | ⟨_, h⟩ <;> rw [h]; rfl

theorem endQuiesce_frame (s : State) : TrafficFrame s (endQuiesce s) := by
  unfold endQuiesce
  split
  · have h : TrafficFrame s { s with datapath := .normal } := by constructor <;> rfl
    exact h.trans (raise_frame _ _).traffic
  · exact TrafficFrame.refl s

/-- The first deliverable entry of a list is one of its DONE-WAITING entries (R128). -/
theorem firstDeliverable_mem {s : State} {blocked : List (BitVec 4)} {l : List EntryId} {e : EntryId}
    (h : firstDeliverable s blocked l = some e) : e ∈ l ∧ (s.entry e).state = .doneWaiting := by
  induction l generalizing blocked with
  | nil => cases h
  | cons a rest ih =>
    unfold firstDeliverable at h
    dsimp only at h
    split at h
    next hc =>
      cases h
      simp only [Bool.and_eq_true, beq_iff_eq] at hc
      exact ⟨List.mem_cons_self .., hc.1⟩
    next =>
      split at h
      · exact ⟨List.mem_cons_of_mem _ (ih h).1, (ih h).2⟩
      · exact ⟨List.mem_cons_of_mem _ (ih h).1, (ih h).2⟩

/-! ## The grant -/

theorem sendPiece_frame (r : PieceRef) (s : State) : TrafficFrame s (sendPiece r s) := by
  unfold sendPiece
  split <;> constructor <;> rfl

theorem grantPort_frame (p : PortId) (s : State) : TrafficFrame s (grantPort p s) := by
  unfold grantPort
  cases (s.port p).queue with
  | nil => exact TrafficFrame.refl s
  | cons r rest =>
    dsimp only
    have h : TrafficFrame s
        { s.modPort p (fun po => { po with queue := rest, credit := po.credit - 1 }) with
          pointer := p + 1,
          indications := (s.modPort p fun po => { po with queue := rest, credit := po.credit - 1 }).indications - 1 } := by
      constructor <;> rfl
    exact h.trans (sendPiece_frame r _)

/-- A grant serves the port that the search finds, after a reload when the chosen class has no credit (R144). -/
theorem grant_cases (s : State) :
    (∃ p, searchGrant s = some p ∧ grant s = grantPort p s)
      ∨ (searchGrant s = none ∧ ∃ p, searchGrant (reloadCredits s) = some p ∧ grant s = grantPort p (reloadCredits s))
      ∨ (searchGrant s = none ∧ searchGrant (reloadCredits s) = none ∧ grant s = reloadCredits s) := by
  unfold grant
  cases h : searchGrant s with
  | some p => exact Or.inl ⟨p, rfl, rfl⟩
  | none =>
    cases h2 : searchGrant (reloadCredits s) with
    | some p => exact Or.inr (Or.inl ⟨rfl, p, rfl, rfl⟩)
    | none => exact Or.inr (Or.inr ⟨rfl, rfl, rfl⟩)

theorem reloadCredits_frame (s : State) : TrafficFrame s (reloadCredits s) := by constructor <;> rfl

@[simp] theorem reloadCredits_port (s : State) (p : PortId) :
    (reloadCredits s).port p = { s.port p with credit := (s.port p).weight } := by
  simp [reloadCredits, State.port]

theorem grant_frame (s : State) : TrafficFrame s (grant s) := by
  rcases grant_cases s with ⟨p, _, h⟩ | ⟨_, p, _, h⟩ | ⟨_, _, h⟩ <;> rw [h]
  · exact grantPort_frame p s
  · exact (reloadCredits_frame s).trans (grantPort_frame p _)
  · exact reloadCredits_frame s

theorem grantLoop_frame (fuel : Nat) (s : State) : TrafficFrame s (grantLoop fuel s) := by
  induction fuel generalizing s with
  | zero => exact TrafficFrame.refl s
  | succ fuel ih =>
    unfold grantLoop
    split
    · exact (grant_frame s).trans (ih _)
    · exact TrafficFrame.refl s

theorem runGrants_frame (s : State) : TrafficFrame s (runGrants s) := grantLoop_frame _ s

/-! ## Acceptance -/

theorem seeUrg_frame (urg : UrgLevels) (s : State) : TrafficFrame s (seeUrg urg s) := by constructor <;> rfl

theorem setWaiting_frame (p : PortId) (w : Option Request) (s : State) : TrafficFrame s (setWaiting p w s) := by
  constructor <;> rfl

theorem acceptInto_frame (e : EntryId) (p : PortId) (r : Request) (d : Decision) (s : State) :
    TrafficFrame s (acceptInto e p r d s) := by
  unfold acceptInto
  dsimp only
  have h1 : TrafficFrame s ((s.modEntry e fun _ => newEntry p r d).modPort p fun po => po.acceptEntry e d) :=
    (modEntry_frame s e _).trans (modPort_frame _ p _)
  have h2 : ∀ u : State, TrafficFrame u (raiseTarget r.kind d.target u) := by
    intro u
    unfold raiseTarget
    cases d.target with
    | none => exact TrafficFrame.refl u
    | some t => exact (modPage_frame u t.page _).traffic
  have h3 : ∀ u : State, TrafficFrame u (raiseReport d.report u) := by
    intro u
    unfold raiseReport
    cases d.report with
    | none => exact TrafficFrame.refl u
    | some r => exact (raise_frame u r).traffic
  exact (h1.trans (h2 _)).trans (h3 _)

theorem acceptHead_frame (p : PortId) (r : Request) (s : State) : TrafficFrame s (acceptHead p r s) := by
  unfold acceptHead
  cases acceptEntry s p r with
  | none => exact setWaiting_frame p _ s
  | some e =>
    exact (((setWaiting_frame p none s).trans (acceptInto_frame e p r _ _)).trans (present_frame p _)).trans
      (runGrants_frame _)

/-! ## The re-test of waiting requests -/

theorem testPort_frame (p : PortId) (s : State) : TrafficFrame s (testPort p s) := by
  unfold testPort
  cases s.links.waiting.get p with
  | none => exact TrafficFrame.refl s
  | some r => exact acceptHead_frame p r s

theorem testLoop_frame (fuel : Nat) (s : State) : TrafficFrame s (testLoop fuel s) := by
  induction fuel generalizing s with
  | zero => exact TrafficFrame.refl s
  | succ fuel ih =>
    unfold testLoop
    cases (List.finRange 4).find? (waitingFits s) with
    | none => exact TrafficFrame.refl s
    | some p => exact (testPort_frame p s).trans (ih _)

theorem testWaiting_frame (s : State) : TrafficFrame s (testWaiting s) := testLoop_frame 4 s

/-! ## Completion, delivery, strobes -/

theorem freeEntry_frame (e : EntryId) (s : State) : TrafficFrame s (freeEntry e s) :=
  (modPort_frame s _ _).trans (modEntry_frame _ e _)

theorem lowerTarget_frame (en : Entry) (s : State) : TrafficFrame s (lowerTarget en s) := by
  unfold lowerTarget
  cases en.target with
  | none => exact TrafficFrame.refl s
  | some t => exact (lowerCount_frame en.kind t.page s).traffic

theorem settleEntry_frame (e : EntryId) (s : State) : TrafficFrame s (settleEntry e s) := by
  unfold settleEntry
  dsimp only
  cases (s.entry e).state <;> dsimp only
  case issued => exact (modEntry_frame s e _).trans (lowerTarget_frame _ _)
  case orphaned => exact (freeEntry_frame e s).trans (lowerTarget_frame _ _)
  case doneWaiting => exact lowerTarget_frame _ s
  all_goals exact TrafficFrame.refl s

theorem failPiece_frame (en : Entry) (pc : Piece) (s : State) : TrafficFrame s (failPiece en pc s) := by
  have h := (modPort_frame s en.port fun po => { po with faults := po.faults + 1 }).trans
    (raise_frame _ (faultRecord en pc)).traffic
  unfold failPiece reportDamage
  split
  · exact h.trans (modPage_frame _ _ _).traffic
  · exact h

theorem completePiece_frame (r : PieceRef) (pc : Piece) (c : Completion) (s : State) :
    TrafficFrame s (completePiece r pc c s) := by
  unfold completePiece
  dsimp only
  have h1 := modEntry_frame s r.entry fun en => en.modPiece r.second fun pc => pc.complete en c
  cases checkedStatus (s.entry r.entry).kind pc.length c <;> dsimp only
  case ok =>
    split
    · exact (h1.trans (endQuiesce_frame _)).trans (present_frame _ _)
    · exact ((h1.trans (settleEntry_frame _ _)).trans (endQuiesce_frame _)).trans (present_frame _ _)
  case error =>
    have h2 := h1.trans (failPiece_frame (s.entry r.entry) pc _)
    split
    · exact (h2.trans (endQuiesce_frame _)).trans (present_frame _ _)
    · exact ((h2.trans (settleEntry_frame _ _)).trans (endQuiesce_frame _)).trans (present_frame _ _)

theorem complete_frame (c : Completion) (s : State) : TrafficFrame s (complete c s) := by
  unfold complete
  cases outstandingPiece s c with
  | none => constructor <;> rfl
  | some x => exact (completePiece_frame x.1 x.2 c s).trans (testWaiting_frame _)

theorem sendResponse_frame (p : PortId) (e : EntryId) (s : State) : TrafficFrame s (sendResponse p e s) := by
  unfold sendResponse
  split <;> constructor <;> rfl

theorem retireEntry_frame (e : EntryId) (s : State) : TrafficFrame s (retireEntry e s) := by
  unfold retireEntry
  split
  · exact modEntry_frame s e _
  · exact freeEntry_frame e s

theorem deliver_frame (p : PortId) (s : State) : TrafficFrame s (deliver p s) := by
  unfold deliver
  cases (s.port p).presented with
  | none => exact TrafficFrame.refl s
  | some e =>
    dsimp only
    exact (((((sendResponse_frame p e s).trans (retireEntry_frame e _)).trans (modPort_frame _ p _)).trans
      (endQuiesce_frame _)).trans (present_frame p _)).trans (testWaiting_frame _)

theorem boundary_frame (n : StreamId) (s : State) : TrafficFrame s (boundary n s) := by
  unfold boundary
  split
  · exact (takenBoundary_frame n s).traffic.trans (testWaiting_frame _)
  · exact TrafficFrame.refl s

theorem take_frame (n : StreamId) (x : SlotId) (s : State) : TrafficFrame s (take n x s) := by
  unfold take
  split
  · split
    · exact (modSlot_frame s n x _).traffic
    · cases candidate s n x with
      | none => exact (repeatTake_frame n x s).traffic
      | some c => exact (successfulTake_frame n x c s).traffic.trans (testWaiting_frame _)
  · exact TrafficFrame.refl s

end Sys2Proof.Machine
end

