-- ==== Sys2Proof/Laws/Waiting.lean ====
section
/-! SUPPORT. The re-test of waiting requests: when a port has room, and that testWaiting does what Retested says. -/

namespace Sys2Proof.Machine

/-! ## Room (R122) -/

theorem firstFreeEntry_isSome (s : State) : (firstFreeEntry s).isSome = true ↔ ∃ e : EntryId, (s.entry e).state = .free := by
  unfold firstFreeEntry
  simp [List.find?_isSome]

theorem acceptEntry_isSome (s : State) (p : PortId) (r : Request) : (acceptEntry s p r).isSome = true ↔ ¬ NoRoom s p r := by
  unfold acceptEntry portRoom NoRoom
  by_cases h1 : (s.port p).order.length < 12
  · by_cases h2 : (s.port p).queue.length + (steer s p r).pieces.length ≤ 16
    · have h3 : ¬ (12 ≤ (s.port p).order.length ∨ 16 < (s.port p).queue.length + (steer s p r).pieces.length) := by omega
      rw [if_pos (by simp [h1, h2]), firstFreeEntry_isSome]
      simp [h3]
    · rw [if_neg (by simp [h2])]
      simp only [Option.isSome_none, Bool.false_eq_true, false_iff, not_not]
      exact Or.inr (Or.inr (by omega))
  · rw [if_neg (by simp [h1])]
    simp only [Option.isSome_none, Bool.false_eq_true, false_iff, not_not]
    exact Or.inr (Or.inl (by omega))

theorem acceptEntry_none {s : State} {p : PortId} {r : Request} (h : NoRoom s p r) : acceptEntry s p r = none := by
  cases hc : acceptEntry s p r with
  | none => rfl
  | some e =>
    have : ¬ NoRoom s p r := (acceptEntry_isSome s p r).1 (by rw [hc]; rfl)
    exact absurd h this

/-- A request waits at port p and could be accepted. -/
theorem waitingFits_iff (s : State) (p : PortId) :
    waitingFits s p = true ↔ ∃ r, s.links.waiting.get p = some r ∧ ¬ NoRoom s p r := by
  unfold waitingFits
  cases h : s.links.waiting.get p with
  | none => simp
  | some r =>
    show (acceptEntry s p r).isSome = true ↔ _
    rw [acceptEntry_isSome]
    simp

/-! ## How many requests wait -/

/-- The ports at whose links a request waits. -/
def waitingPorts (s : State) : List PortId := (List.finRange 4).filter fun p => (s.links.waiting.get p).isSome

theorem runGrants_waiting (s : State) : (runGrants s).links.waiting = s.links.waiting := by
  have hs : ∀ (r : PieceRef) (u : State), (sendPiece r u).links.waiting = u.links.waiting := by
    intro r u
    unfold sendPiece
    split <;> rfl
  have hp : ∀ (p : PortId) (u : State), (grantPort p u).links.waiting = u.links.waiting := by
    intro p u
    unfold grantPort
    split
    · rfl
    · exact hs _ _
  have hg : ∀ u : State, (grant u).links.waiting = u.links.waiting := by
    intro u
    rcases grant_cases u with ⟨p, _, h⟩ | ⟨_, p, _, h⟩ | ⟨_, _, h⟩ <;> rw [h]
    · exact hp p u
    · exact hp p _
    · rfl
  have hl : ∀ (fuel : Nat) (u : State), (grantLoop fuel u).links.waiting = u.links.waiting := by
    intro fuel
    induction fuel with
    | zero => intro u; rfl
    | succ fuel ih =>
      intro u
      unfold grantLoop
      split
      · rw [ih, hg]
      · rfl
  exact hl _ s

/-- An accepted request waits no longer, and no other link is touched. -/
theorem acceptHead_waiting {s : State} {p : PortId} {r : Request} (h : ¬ NoRoom s p r) :
    (acceptHead p r s).links.waiting = setRow s.links.waiting p none := by
  have hp : ∀ u : State, (present p u).links = u.links := by
    intro u
    rcases present_cases p u with ⟨_, _, h⟩ | ⟨_, h⟩ <;> rw [h]
    rfl
  have ha : ∀ (e : EntryId) (d : Decision) (u : State), (acceptInto e p r d u).links = u.links := by
    intro e d u
    unfold acceptInto raiseReport raiseTarget
    cases d.target <;> cases d.report <;> simp
  have he := (acceptEntry_isSome s p r).2 h
  unfold acceptHead
  cases hc : acceptEntry s p r with
  | none => rw [hc] at he; cases he
  | some e =>
    dsimp only
    rw [runGrants_waiting, hp, ha]
    rfl

/-- Each acceptance ends one wait. -/
theorem waitingPorts_accept {s : State} {p : PortId} {r : Request} (hw : s.links.waiting.get p = some r)
    (h : ¬ NoRoom s p r) : (waitingPorts (acceptHead p r s)).length < (waitingPorts s).length := by
  have hn : waitingPorts (acceptHead p r s) = (waitingPorts s).filter (· != p) := by
    unfold waitingPorts
    rw [List.filter_filter]
    apply List.filter_congr
    intro q _
    rw [acceptHead_waiting h]
    by_cases hq : q = p
    · subst hq
      simp
    · simp [hq]
  rw [hn]
  apply List.length_filter_lt_length_iff_exists.2
  refine ⟨p, ?_, by simp⟩
  unfold waitingPorts
  simp [hw]

/-! ## The re-test -/

theorem testLoop_retested (fuel : Nat) (s : State) (h : (waitingPorts s).length ≤ fuel) : Retested s (testLoop fuel s) := by
  induction fuel generalizing s with
  | zero =>
    refine Retested.done s fun p r hw => ?_
    have hp : p ∈ waitingPorts s := by
      unfold waitingPorts
      simp [hw]
    rw [List.eq_nil_of_length_eq_zero (Nat.le_zero.1 h)] at hp
    cases hp
  | succ fuel ih =>
    unfold testLoop
    cases hf : (List.finRange 4).find? (waitingFits s) with
    | none =>
      refine Retested.done s fun p r hw => ?_
      by_contra hr
      exact (List.find?_eq_none.1 hf p (List.mem_finRange p)) ((waitingFits_iff s p).2 ⟨r, hw, hr⟩)
    | some p =>
      obtain ⟨r, hw, hr⟩ := (waitingFits_iff s p).1 (List.find?_some hf)
      have ht : testPort p s = acceptHead p r s := by
        unfold testPort
        rw [hw]
      dsimp only
      rw [ht]
      refine Retested.accept s _ p r hw hr (ih _ ?_)
      have := waitingPorts_accept hw hr
      omega

/-- What testWaiting does (R122, R138). -/
theorem testWaiting_retested (s : State) : Retested s (testWaiting s) :=
  testLoop_retested 4 s (by
    unfold waitingPorts
    exact (List.length_filter_le _ _).trans (by simp))

/-- Behind a re-test no waiting request could be accepted. -/
theorem Retested.waitingLaw {s u : State} (h : Retested s u) : WaitingLaw u := by
  induction h with
  | done s h => exact fun _ => h
  | accept s u p r h k rest ih => exact ih

theorem testWaiting_waitingLaw (s : State) : WaitingLaw (testWaiting s) := (testWaiting_retested s).waitingLaw

end Sys2Proof.Machine
end

