-- ==== Sys2Proof/Laws/Management.lean ====
section
/-! SUPPORT. From a command's answer to what its management frame leaves (R164 to R169, R172). -/

namespace Sys2Proof.Machine

theorem portReady_iff (s : State) : PortReady s ↔ mgmtReady s = true := by
  unfold PortReady mgmtReady
  simp

theorem outbound_length (response : List Byte) (m : Nat) : (outbound response m).length = m := by
  unfold outbound
  simp

theorem outbound_byte (response : List Byte) {m k : Nat} (h : k < m) :
    (outbound response m)[k]? = some (response.getD k 0) := by
  unfold outbound
  simp [h]

/-- What a command leaves alone by which its frame is taken as FrameTaken says. -/
structure CommandFrame (s t : State) : Prop where
  rx : t.rx = s.rx
  mdo : t.mdo = s.mdo
  links : t.links = s.links
  resetn : t.resetn = s.resetn
  awaitRise : t.awaitRise = s.awaitRise
  pending : t.pending = s.pending

theorem CommandFrame.refl (s : State) : CommandFrame s s := by constructor <;> rfl

theorem CommandFrame.trans {s t u : State} (h : CommandFrame s t) (k : CommandFrame t u) : CommandFrame s u :=
  ⟨k.rx.trans h.rx, k.mdo.trans h.mdo, k.links.trans h.links, k.resetn.trans h.resetn, k.awaitRise.trans h.awaitRise,
    k.pending.trans h.pending⟩

theorem RotationFrame.command {s t : State} (h : RotationFrame s t) : CommandFrame s t :=
  ⟨h.rx, h.mdo, h.links, h.resetn, h.awaitRise, h.pending⟩

/-- What a frame of these whole bytes has driven on MDO (R164, R169). -/
theorem outboundBits_eq (response : List Byte) (m : Nat) :
    outboundBits response m = (outbound response m).flatMap fun b => (List.range 8).map fun k => b.getMsbD k := by
  rfl

/-- The first bit of a response, as a frame of no whole byte drives it (R164). -/
theorem firstOutboundBit_eq (response : List Byte) : firstOutboundBit response = [(response.getD 0 0).getMsbD 0] := by
  simp [firstOutboundBit, outboundBits, outbound, byteBits, List.range_succ, BitVec.getMsbD]

/-! ## The two ends of a frame -/

theorem frameEnd_ready {bytes : List Byte} {command : State → Answer} {s : State} (h : PortReady s) :
    frameEnd bytes command s = answerFrame bytes command s := if_pos ((portReady_iff s).1 h)

theorem frameEnd_notReady {bytes : List Byte} {command : State → Answer} {s : State} (h : ¬ PortReady s) :
    frameEnd bytes command s = s := if_neg (fun k => h ((portReady_iff s).2 k))

theorem steeringFrameEnd_notReady {bytes : List Byte} {command : State → Answer} {s : State} (h : ¬ PortReady s) :
    steeringFrameEnd bytes command s = s := if_neg (fun k => h ((portReady_iff s).2 k))

/-- A command that is taken has waiting requests tested again behind it. -/
theorem steeringFrameEnd_taken {bytes : List Byte} {command : State → Answer} {s : State} (h : PortReady s)
    (hc : (command (shiftFrame bytes s)).code = .ok) :
    steeringFrameEnd bytes command s = testWaiting (answerFrame bytes command s) := by
  unfold steeringFrameEnd
  rw [if_pos ((portReady_iff s).1 h), hc]

/-- A command that is refused has not. -/
theorem steeringFrameEnd_refused {bytes : List Byte} {command : State → Answer} {s : State} (h : PortReady s)
    (hc : (command (shiftFrame bytes s)).code ≠ .ok) :
    steeringFrameEnd bytes command s = answerFrame bytes command s := by
  unfold steeringFrameEnd
  rw [if_pos ((portReady_iff s).1 h)]
  cases hk : (command (shiftFrame bytes s)).code <;> first | rfl | exact absurd hk hc

/-- An answered frame has been taken, and has left the response of its command. -/
theorem answerFrame_taken {bytes : List Byte} {command : State → Answer} {s : State}
    (k : CommandFrame (shiftFrame bytes s) (command (shiftFrame bytes s)).state) :
    FrameTaken bytes (command (shiftFrame bytes s)).bytes s (answerFrame bytes command s) := by
  refine ⟨rfl, congrArg Receiver.bits k.rx, k.mdo, ⟨outbound s.response bytes.length, outbound_length _ _,
    fun _ hk => outbound_byte _ hk, ?_⟩, k.resetn, k.awaitRise, k.pending⟩
  rw [← outboundBits_eq]
  exact k.links

/-- A command that refuses leaves its code as the whole response, and everything else as it was. -/
theorem refused_of {i : Instr} {bytes : List Byte} {bits : List Bool} {command : State → Answer} {s : State}
    {code : ResultCode} (hf : frameOf i = some (bytes, bits)) (he : exec i s = .next (answerFrame bytes command s))
    (hc : command (shiftFrame bytes s) = Answer.refuse code (shiftFrame bytes s)) :
    ∃ t, exec i s = .next t ∧ RefusedBy i code.byte s t := by
  have ht := answerFrame_taken (bytes := bytes) (command := command) (s := s) (by rw [hc]; exact CommandFrame.refl _)
  rw [hc] at ht
  refine ⟨_, he, ⟨bytes, bits, hf, ht⟩, ?_⟩
  unfold answerFrame
  rw [hc]
  exact ⟨⟨rfl, rfl⟩, ⟨rfl, rfl, rfl, rfl, rfl, rfl⟩, rfl, rfl, rfl, rfl, rfl⟩

/-- A command that is taken leaves its response and its state. -/
theorem answered_of {i : Instr} {bytes : List Byte} {bits : List Bool} {command : State → Answer} {s u : State}
    {data : List Byte} (hf : frameOf i = some (bytes, bits))
    (hc : command (shiftFrame bytes s) = Answer.report data u) (hu : CommandFrame (shiftFrame bytes s) u) :
    answerFrame bytes command s = { u with response := 0x00 :: data }
      ∧ Framed i (0x00 :: data) s { u with response := 0x00 :: data } := by
  have ht := answerFrame_taken (bytes := bytes) (command := command) (s := s) (by rw [hc]; exact hu)
  have he : answerFrame bytes command s = { u with response := 0x00 :: data } := by
    unfold answerFrame
    rw [hc]
    rfl
  rw [hc] at ht
  rw [he] at ht
  exact ⟨he, bytes, bits, hf, ht⟩

end Sys2Proof.Machine
end

