-- ==== Sys2Proof/Laws/Claims.lean ====
section
/-! SUPPORT. From the model's operations to the words that claims use: raised records, strobe frames, fill pages. -/

namespace Sys2Proof.Machine

/-! ## Records -/

theorem raised_raise (s : State) (r : EventRecord) : Raised r s (s.raise r) := by
  rcases raise_cases s r with ⟨_, h⟩ | ⟨_, _, h⟩ | ⟨_, _, h⟩ <;> rw [h] <;> refine ⟨?_, ?_, ?_⟩ <;>
    simp_all [attnLevel]

/-- Raising depends on nothing but the event queue and its settings. -/
theorem Raised.congr {r : EventRecord} {s s' t t' : State} (h : Raised r s t) (e1 : s'.events = s.events)
    (e2 : s'.lost = s.lost) (e3 : s'.attn = s.attn) (e4 : s'.watermark = s.watermark) (e5 : s'.kindMask = s.kindMask)
    (f1 : t'.events = t.events) (f2 : t'.lost = t.lost) (f3 : t'.attn = t.attn) : Raised r s' t' := by
  have hk : s'.kindEnabled r.kind = s.kindEnabled r.kind := by
    unfold State.kindEnabled
    rw [e5]
  unfold Raised at *
  rw [hk, e1, e2, e3, e4, f1, f2, f3]
  exact h

/-! ## Strobes -/

theorem RotationFrame.strobe {s t : State} (h : RotationFrame s t) : StrobeFrame s t :=
  ⟨⟨h.entries, h.ports, h.pointer, h.indications, h.datapath, h.stray⟩, ⟨h.watermark, h.kindMask⟩,
    ⟨h.response, h.rx, h.awaitRise, h.mdo, h.resetn, h.pending⟩, h.links⟩

/-- A closing boundary is carried out as one, with the re-test behind it (R43, R122). -/
theorem exec_closing {s : State} {n : StreamId} (h : Closing s n) :
    exec (.boundaryEvent n) s = .next (testWaiting (closingBoundary n s)) := by
  obtain ⟨h1, h2, h3⟩ := h
  show Host.Outcome.next (if s.resetn then boundary n s else s) = _
  rw [if_pos h1]
  unfold boundary takenBoundary
  dsimp only
  rw [if_pos (by simp [h2]), if_neg]
  intro hh
  simp only [Bool.and_eq_true, beq_iff_eq, Bool.not_eq_true'] at hh
  rw [h3 hh.1] at hh
  cases hh.2

/-! ## Fill pages (R47, R48) -/

theorem firstFree_of {s : State} {n : StreamId} {p : PageId} (h : FirstFree s n p) : firstFree s n = some p := by
  obtain ⟨a, b, h1, h2, h3⟩ := h
  unfold firstFree
  rw [h1, List.find?_append, List.find?_eq_none.2]
  · simp [h2]
  · intro q hq
    simpa using h3 q hq

theorem firstFree_none {s : State} {n : StreamId} (h : ∀ q ∈ (s.stream n).ring, (s.page q).stage ≠ .free) :
    firstFree s n = none := by
  unfold firstFree
  rw [List.find?_eq_none]
  intro q hq
  simpa using h q hq

theorem seekFill_free {s : State} {n : StreamId} {p : PageId} (h : FirstFree s n p) :
    seekFill n s = some (p, makeFill n p s) := by
  unfold seekFill
  rw [firstFree_of h]

theorem seekFill_none {s : State} {n : StreamId} (h : NoFillPage s n) : seekFill n s = none := by
  unfold seekFill
  rw [firstFree_none h.1]
  rcases h.2 with h2 | h2
  · rw [h2]
  · have hc : recycleCandidate s n = none := by
      unfold recycleCandidate
      rw [List.find?_eq_none]
      intro q hq
      have := h2 q hq
      simp only [Page.unheld, Bool.and_eq_true, beq_iff_eq, Bool.not_eq_true']
      rintro ⟨⟨_, ha, hb⟩, hr⟩
      rcases this with h | h | h
      · rw [ha] at h
        cases h
      · rw [hb] at h
        cases h
      · exact h hr
    rw [hc]
    cases (s.stream n).poolPolicy <;> rfl

end Sys2Proof.Machine
end

