-- ==== Sys2Proof/Laws/PerInstr.lean ====
section
/-! SUPPORT. Per-event laws. Family PartialByte: the frame of a well-formed event leaves a partial byte of fewer than eight
bits (R164). -/

namespace Sys2Proof.Laws.PartialByte

/-- The frame of a well-formed event ends in fewer than eight bits that complete no byte (R164). -/
def Statement (i : Instr) : Prop :=
  i.wellFormed = true → ∀ bytes bits, frameOf i = some (bytes, bits) → bits.length < 8

theorem boundaryEvent (n : StreamId) : Statement (.boundaryEvent n) := fun _ _ _ h => by cases h

theorem takeEvent (n : StreamId) (x : SlotId) : Statement (.takeEvent n x) := fun _ _ _ h => by cases h

theorem acceptance (p : PortId) (r : Request) (u : UrgLevels) : Statement (.acceptance p r u) := fun _ _ _ h => by cases h

theorem indication (u : UrgLevels) : Statement (.indication u) := fun _ _ _ h => by cases h

theorem downstreamCompletion (c : Completion) : Statement (.downstreamCompletion c) := fun _ _ _ h => by cases h

theorem delivery (p : PortId) : Statement (.delivery p) := fun _ _ _ h => by cases h

theorem nop (f : FrameTail) : Statement (.nop f) := by
  intro w bytes bits h
  cases h
  exact of_decide_eq_true w

theorem setStream (a : SetStreamArgs) (f : FrameTail) : Statement (.setStream a f) := by
  intro w bytes bits h
  cases h
  exact of_decide_eq_true w

theorem clearStream (b : Byte) (f : FrameTail) : Statement (.clearStream b f) := by
  intro w bytes bits h
  cases h
  exact of_decide_eq_true w

theorem setConsumer (a : SetConsumerArgs) (f : FrameTail) : Statement (.setConsumer a f) := by
  intro w bytes bits h
  cases h
  exact of_decide_eq_true w

theorem assignPage (a : AssignPageArgs) (f : FrameTail) : Statement (.assignPage a f) := by
  intro w bytes bits h
  cases h
  exact of_decide_eq_true w

theorem unassignPage (b : Byte) (f : FrameTail) : Statement (.unassignPage b f) := by
  intro w bytes bits h
  cases h
  exact of_decide_eq_true w

theorem startStream (b : Byte) (f : FrameTail) : Statement (.startStream b f) := by
  intro w bytes bits h
  cases h
  exact of_decide_eq_true w

theorem stopStream (b : Byte) (f : FrameTail) : Statement (.stopStream b f) := by
  intro w bytes bits h
  cases h
  exact of_decide_eq_true w

theorem freeze (b t o : Byte) (f : FrameTail) : Statement (.freeze b t o f) := by
  intro w bytes bits h
  cases h
  exact of_decide_eq_true w

theorem setArbiter (w0 w1 w2 w3 : Byte) (f : FrameTail) : Statement (.setArbiter w0 w1 w2 w3 f) := by
  intro w bytes bits h
  cases h
  exact of_decide_eq_true w

theorem setEvents (w : Byte) (m : Word16) (f : FrameTail) : Statement (.setEvents w m f) := by
  intro w bytes bits h
  cases h
  exact of_decide_eq_true w

theorem popEvents (b : Byte) (f : FrameTail) : Statement (.popEvents b f) := by
  intro w bytes bits h
  cases h
  exact of_decide_eq_true w

theorem readStream (b : Byte) (f : FrameTail) : Statement (.readStream b f) := by
  intro w bytes bits h
  cases h
  exact of_decide_eq_true w

theorem readPage (b : Byte) (f : FrameTail) : Statement (.readPage b f) := by
  intro w bytes bits h
  cases h
  exact of_decide_eq_true w

theorem readCounters (g n x c : Byte) (f : FrameTail) : Statement (.readCounters g n x c f) := by
  intro w bytes bits h
  cases h
  exact of_decide_eq_true w

theorem datapathReset (b : Byte) (f : FrameTail) : Statement (.datapathReset b f) := by
  intro w bytes bits h
  cases h
  exact of_decide_eq_true w

theorem unknownCommand (b : Byte) (f : FrameTail) : Statement (.unknownCommand b f) := by
  intro w bytes bits h
  cases h
  simp only [Instr.wellFormed, FrameTail.wellFormed, Bool.and_eq_true, decide_eq_true_eq] at w
  exact w.1

theorem discardedFrame (l : List Bool) : Statement (.discardedFrame l) := by
  intro w bytes bits h
  cases h
  exact of_decide_eq_true w

theorem pinReset : Statement .pinReset := fun _ _ _ h => by cases h

theorem resetnRise (b : Bool) : Statement (.resetnRise b) := fun _ _ _ h => by cases h

theorem shortFrame (b : Byte) (f : FrameTail) : Statement (.shortFrame b f) := by
  intro w bytes bits h
  cases h
  simp only [Instr.wellFormed, FrameTail.wellFormed, Bool.and_eq_true, decide_eq_true_eq] at w
  exact w.1

theorem chipSelectRiseAfterPinReset : Statement .chipSelectRiseAfterPinReset := fun _ _ _ h => by cases h

end Sys2Proof.Laws.PartialByte
end

