-- ==== Sys2Proof/Laws/Steering.lean ====
section
/-! SUPPORT. Which aperture a request meets, and the pieces of an APERTURE request. -/

namespace Sys2Proof.Machine

theorem Range.overlaps_of_inside {a b : Range} (h0 : 0 < a.size) (h : a.inside b = true) : a.overlaps b = true := by
  simp only [Range.inside, Range.overlaps, Bool.and_eq_true, decide_eq_true_eq] at *
  omega

theorem Range.overlaps_of_common {r a b : Range} (h0 : 0 < r.size) (h1 : r.inside a = true) (h2 : r.inside b = true) :
    a.overlaps b = true := by
  simp only [Range.inside, Range.overlaps, Bool.and_eq_true, decide_eq_true_eq] at *
  omega

/-- Among pairwise disjoint apertures a range lies inside at most one. -/
theorem find_inside_of_pairwise {l : List Aperture} (hp : l.Pairwise fun a b => a.range.overlaps b.range = false)
    {r : Range} (h0 : 0 < r.size) {a : Aperture} (ha : a ∈ l) (hi : r.inside a.range = true) :
    l.find? (fun x => r.inside x.range) = some a := by
  induction l with
  | nil => cases ha
  | cons b t ih =>
    rw [List.pairwise_cons] at hp
    by_cases hb : r.inside b.range = true
    · rw [List.find?_cons, hb]
      rcases List.mem_cons.1 ha with rfl | ha'
      · rfl
      · have h1 := hp.1 a ha'
        rw [Range.overlaps_of_common h0 hb hi] at h1
        cases h1
    · rw [List.find?_cons]
      rw [Bool.not_eq_true] at hb
      rw [hb]
      rcases List.mem_cons.1 ha with rfl | ha'
      · rw [hi] at hb
        cases hb
      · exact ih hp.2 ha'

/-- A request that lies inside an aperture is decided by that aperture's own checks (R103 to R106). -/
theorem steer_inside {s : State} {p : PortId} {r : Request} {a : Aperture} (hr : RangesLaw s)
    (hn : (reqRange r).pastTop = false) (ha : a ∈ definedApertures s) (hi : (reqRange r).inside a.range = true) :
    steer s p r = steerInside s p r a := by
  have h0 : 0 < (reqRange r).size := by
    simp [reqRange, reqBeats]
  have hm : a ∈ touchedApertures s r := by
    simp [touchedApertures, ha, Range.overlaps_of_inside h0 hi]
  have hf : (touchedApertures s r).find? (fun ap => (reqRange r).inside ap.range) = some a :=
    find_inside_of_pairwise (hr.1.filter _) h0 hm hi
  unfold steer
  rw [hn, if_neg (by simp), if_neg, hf]
  intro he
  rw [List.isEmpty_iff] at he
  rw [he] at hm
  cases hm

/-- What a defined aperture is (R5). -/
theorem mem_definedApertures {s : State} {a : Aperture} (h : a ∈ definedApertures s) :
    (s.stream a.stream).state ≠ .undefined
      ∧ (a.role = .producer → a.range = (s.stream a.stream).aperture)
      ∧ ∀ x, a.role = .slot x → a.range = (s.slot a.stream x).aperture ∧ (s.slot a.stream x).enabled = true := by
  unfold definedApertures at h
  simp only [List.mem_flatMap] at h
  obtain ⟨n, _, h⟩ := h
  unfold streamApertures at h
  split at h
  · cases h
  · next hne =>
    simp only [slotApertures, List.mem_cons, List.mem_append] at h
    have hu : (s.stream n).state ≠ .undefined := by simpa using hne
    rcases h with rfl | h | h
    · exact ⟨hu, fun _ => rfl, fun x hx => by cases hx⟩
    · split at h
      · next he =>
        rw [List.mem_singleton] at h
        subst h
        exact ⟨hu, fun h => (by cases h), fun x hx => by cases hx; exact ⟨rfl, he⟩⟩
      · cases h
    · split at h
      · next he =>
        rw [List.mem_singleton] at h
        subst h
        exact ⟨hu, fun h => (by cases h), fun x hx => by cases hx; exact ⟨rfl, he⟩⟩
      · cases h

/-- Addresses and lengths of the pieces of a cut (R111). -/
theorem piecesOf_map (address : Nat → Nat) (l : List (Nat × Nat)) (data : List WriteBeat) :
    (piecesOf address l data).map (fun pc => (pc.addr, pc.length)) =
      l.map fun c => (BitVec.ofNat 40 (address c.1), c.2) := by
  induction l generalizing data with
  | nil => rfl
  | cons c t ih =>
    obtain ⟨o, k⟩ := c
    simp [piecesOf, ih]

theorem piecesOf_length (address : Nat → Nat) (l : List (Nat × Nat)) (data : List WriteBeat) :
    (piecesOf address l data).length = l.length := by
  have := congrArg List.length (piecesOf_map address l data)
  simpa using this

theorem cutLine_length (lineLength o beats : Nat) :
    1 ≤ (cutLine lineLength o beats).length ∧ (cutLine lineLength o beats).length ≤ 2 := by
  unfold cutLine
  dsimp only
  split <;> simp

end Sys2Proof.Machine
end

