-- ==== Sys2Proof/Tests/Slice0.lean ====
section
/-! SUPPORT. Small tests: ill-formed terms that the check refuses, worked examples of the manual, and for each statement with
hypotheses a theorem that shows a state and operands which meet them. -/

set_option Elab.async false

namespace Sys2Proof.Tests

open Sys2Proof Sys2Proof.Machine

/-! ## Well-formedness -/

def noTail : FrameTail := { extra := [], partialBits := [] }

def fullTail : FrameTail := { extra := [], partialBits := List.replicate 8 true }

def sevenTail : FrameTail := { extra := [], partialBits := List.replicate 7 true }

theorem test_eightPartialBits_refused : Instr.wellFormed (.nop fullTail) = false := by decide

theorem test_sevenPartialBits_accepted : Instr.wellFormed (.nop sevenTail) = true := by decide

theorem test_unknownCommand_definedCode_refused : Instr.wellFormed (.unknownCommand 0x53 noTail) = false := by decide

theorem test_unknownCommand_eightBits_refused : Instr.wellFormed (.unknownCommand 0x33 fullTail) = false := by decide

theorem test_shortFrame_undefinedCode_refused : Instr.wellFormed (.shortFrame 0x33 noTail) = false := by decide

theorem test_shortFrame_enoughArguments_refused :
    Instr.wellFormed (.shortFrame 0x30 { extra := [0], partialBits := [] }) = false := by decide

theorem test_discardedFrame_eightBits_refused : Instr.wellFormed (.discardedFrame (List.replicate 8 true)) = false := by
  decide

/-! ## Frames (R166, R171, R186) -/

theorem test_decode_popEvents : decodeFrame [0x50, 4] [] = .popEvents 4 noTail := by decide

theorem test_decode_assignPage :
    decodeFrame [0x20, 9, 2, 0x01, 0x02, 0x03, 0x04, 0x05, 0x00, 0x43, 0x80, 0x00] [] =
      .assignPage { page := 9, stream := 2, base := 0x0102030405, size := 0x00438000 } noTail := by decide

/-- Frame 2 of section 10.9: ASSIGN-PAGE with 4 of its 11 argument bytes and 3 further bits. -/
theorem test_decode_shortAssignPage :
    decodeFrame [0x20, 9, 2, 0, 0] [true, false, true] =
      .shortFrame 0x20 { extra := [9, 2, 0, 0], partialBits := [true, false, true] } := by decide

/-- Frame 4 of section 10.9. -/
theorem test_decode_unknown : decodeFrame [0x33] [] = .unknownCommand 0x33 noTail := by decide

theorem test_decode_setEventsFromBits :
    decodeSerial (([0x41, 0x20, 0x01, 0xFF] : List Byte).flatMap byteBits ++ [true]) =
      .setEvents 32 0x01FF { extra := [], partialBits := [true] } := by decide

/-! ## Beats, records, counters of the worked examples -/

theorem test_fillBeat :
    (fillBeat 0x10801280).toList = (List.replicate 4 [0x10, 0x80, 0x12, 0x80]).flatten ∧ BlankBeat 0x10801280 (fillBeat 0x10801280) := by
  unfold BlankBeat
  decide

/-- The record read in section 11.5. -/
theorem test_recordBytes_producerResumed :
    recordBytes { kind := .producerResumed, stream := some 1, page := some 20, count := some 1 } =
      [0x04, 0x01, 0xFF, 0x14] ++ List.replicate 3 0xFF ++ List.replicate 12 0x00 ++ [0x01] := by decide

theorem test_recordBytes_datapathQuiet :
    recordBytes { kind := .datapathQuiet } = [0x09] ++ List.replicate 6 0xFF ++ List.replicate 13 0x00 := by decide

/-! ## Wire codes (R183) -/

theorem test_responseMessage_codes :
    responseMessage 2 9 { status := .refused, reason := some .reset, data := [] } = ⟨2, 9, 1, 7, []⟩
      ∧ responseMessage 0 0 { status := .done, reason := none, data := [] } = ⟨0, 0, 0, 0, []⟩
      ∧ responseMessage 0 15 { status := .fault, reason := none, data := [] } = ⟨0, 15, 2, 0, []⟩ := by decide

/-- The second piece of entry 47 carries tag 95, and 16 beats are length 15. -/
theorem test_pieceMessage_codes :
    pieceMessage { Entry.blank with kind := .write, tag := 33 } ⟨47, true⟩
        { addr := 0xFFFFFFFF00, length := 16, data := [], status := .queued, readData := [] } =
      ⟨1, 0xFFFFFFFF00, 15, 95, 33, []⟩ := by decide

theorem test_inbound_codes :
    (decodeRequest 1 0x1000 3 2 7 []).kind = .write ∧ (decodeRequest 0 0x1000 3 2 7 []).kind = .read
      ∧ (decodeCompletion 95 0 []).status = .ok ∧ (decodeCompletion 95 1 []).status = .error := by decide

/-- The first response byte 0x24 goes out most significant bit first; a frame of no whole byte drives one bit. -/
theorem test_outboundBits :
    outboundBits [0x24] 1 = [false, false, true, false, false, true, false, false]
      ∧ firstOutboundBit [0x80] = [true] := by decide

theorem test_newer_edges :
    newer 5 5 = false ∧ newer 6 5 = true ∧ newer 0 0xFFFFFFFF = true ∧ newer 0x80000000 0 = false := by decide

/-! ## Section 1.10: a woven stream and a cropped consumer -/

def wovenArgs : SetStreamArgs :=
  { stream := 2, base := 0x0040000000, lines := 540, lineLength := 3840, stride := 4096, transform := 2,
    producerTag := 9, takePolicy := 0, poolPolicy := 0, fill := 0x10801080 }

def croppedArgs : SetConsumerArgs :=
  { stream := 2, slot := 0, enable := 1, tag := 21, base := 0x0044000000, lines := 480, lineLength := 2560,
    cropLine := 300, cropByte := 640, staleThreshold := 0 }

/-- The state that an event leaves. -/
def after (i : Instr) (s : State) : State :=
  match exec i s with
  | .next t => t
  | .fault _ => s
  | .refused _ => s

theorem test_setStream_woven :
    (after (.setStream wovenArgs noTail) State.reset).response = [0x00]
      ∧ ((after (.setStream wovenArgs noTail) State.reset).stream 2).aperture = ⟨0x0040000000, 0x1FA400⟩
      ∧ ((after (.setStream wovenArgs noTail) State.reset).stream 2).pageLines = 1080 := by decide +kernel

/-- Stream 2 of section 1.10 while it runs: page 5 is the fill page of the second field, slot A holds page 7. -/
def woven : State :=
  ((((after (.setStream wovenArgs noTail) State.reset).modStream 2 fun st =>
      { st with state := .running, ring := [5, 7], ready := [7], fillPage := some 5, parity := true }).modSlot 2 .a
        fun sl =>
          { sl with
            enabled := true, tag := 21, base := 0x0044000000, lines := 480, lineLength := 2560, cropLine := 300,
            cropByte := 640, held := some 7 }).modPage 5 fun pg =>
      { pg with stage := .filling, owner := some 2, base := 0x0100000000, size := 4423680 }).modPage 7 fun pg =>
      { pg with stage := .published, owner := some 2, base := 0x0100500000, size := 4423680, frame := some 0 }

def wovenWrite : Request := { kind := .write, addr := 0x0040012BF0, len := 3, id := 0, tag := 9, beats := [] }

def croppedRead : Request := { kind := .read, addr := 0x00440280A0, len := 3, id := 0, tag := 21, beats := [] }

theorem test_wovenWrite_pieces :
    (steer woven 0 wovenWrite).pieces.map (fun pc => (pc.addr, pc.length)) =
      [(0x0100027EF0, 1), (0x0100029000, 3)] := by decide +kernel

theorem test_croppedRead_pieces :
    (steer woven 0 croppedRead).pieces.map (fun pc => (pc.addr, pc.length)) = [(0x010066C320, 4)] := by decide +kernel

/-! ## Section 8.9: a round with an urgent burst -/

/-- Port p with n pieces queued and this weight and credit; entry p is its entry. -/
def portAt (p : PortId) (weight credit : Nat) (s : State) : State :=
  (s.modPort p fun pt =>
      { pt with weight := weight, credit := credit, order := [⟨p.val, by omega⟩], queue := [⟨⟨p.val, by omega⟩, false⟩] }).modEntry
    ⟨p.val, by omega⟩ fun _ =>
      { Entry.blank with
        state := .queued, port := p, length := 1,
        pieces := [{ addr := 0x1000, length := 1, data := [], status := .queued, readData := [] }] }

/-- Four ports with one piece each, weights 3, 1, 2, 1 and these credits and pointer. -/
def round (c0 c1 c2 c3 : Nat) (pointer : PortId) : State :=
  { portAt 0 3 c0 (portAt 1 1 c1 (portAt 2 2 c2 (portAt 3 1 c3 State.reset))) with pointer := pointer }

def calm : UrgLevels := Vector.replicate 4 false

def urgentTwo : UrgLevels := #v[false, false, true, false]

def shares (s : State) : List Nat × PortId :=
  ([(s.port 0).credit, (s.port 1).credit, (s.port 2).credit, (s.port 3).credit], s.pointer)

/-- Grants 6, 8 and 11 of the table. -/
theorem test_grants :
    shares (after (.indication calm) (round 1 0 1 0 1)) = ([1, 0, 0, 0], 3)
      ∧ shares (after (.indication calm) (round 0 0 0 0 1)) = ([3, 0, 2, 1], 2)
      ∧ shares (after (.indication urgentTwo) (round 3 0 0 1 3)) = ([3, 1, 1, 1], 3) := by decide +kernel

/-! ## States for the witnesses -/

def offStream : Stream :=
  { Stream.blank with
    state := .off, base := 0x10000, lines := 4, lineLength := 256, stride := 256, fill := 0x10801080 }

def shownSlot : Slot :=
  { Slot.blank with enabled := true, tag := 5, base := 0x20000, lines := 2, lineLength := 256, cropLine := 1 }

def freePage (base : Addr) : Page := { Page.blank with stage := .free, owner := some 0, base := base, size := 4096 }

/-- Stream 0 is OFF, with slot A enabled and no ring. -/
def off : State := State.reset.modStream 0 fun _ => { offStream with slotA := shownSlot }

/-- Stream 0 is OFF with a ring of three FREE pages. -/
def ringed : State :=
  (((off.modStream 0 fun st => { st with ring := [0, 1, 2] }).modPage 0 fun _ => freePage 0x100000).modPage 1 fun _ =>
    freePage 0x101000).modPage 2 fun _ => freePage 0x102000

/-- Stream 0 is RUNNING: page 0 is filled, page 1 is published with frame 0, page 2 is FREE. -/
def live : State :=
  ((ringed.modStream 0 fun st =>
      { st with state := .running, ready := [1], fillPage := some 0, nextFrame := 1 }).modPage 0 fun pg =>
    { pg with stage := .filling }).modPage 1 fun pg => { pg with stage := .published, frame := some 0 }

/-- As live, with a write in flight on the fill page. -/
def busy : State := live.modPage 0 fun pg => { pg with writeCount := 1 }

/-- As live, with page 2 RETIRING under a read, so that no page is FREE. -/
def tight : State := live.modPage 2 fun pg => { pg with stage := .retiring, readCount := 1 }

def waiting (i : Instr) (s : State) : State := { s with pending := [i] }

def down : State := { State.reset with resetn := false }

/-! ## Deciding that a state is safe -/

/-- HolderLaw, slot by slot. -/
def HolderCheck (s : State) : Prop :=
  ((∀ p : PageId, (s.page p).holdA = true ↔ ∃ n : StreamId, (s.page p).owner = some n ∧ (s.stream n).slotA.held = some p)
      ∧ ∀ p : PageId, (s.page p).holdB = true ↔
        ∃ n : StreamId, (s.page p).owner = some n ∧ (s.stream n).slotB.held = some p)
    ∧ ∀ n : StreamId, (∀ p : PageId, (s.stream n).slotA.held = some p → p ∈ (s.stream n).ready)
      ∧ ∀ p : PageId, (s.stream n).slotB.held = some p → p ∈ (s.stream n).ready

/-- TableLaw, with an issue queue's tags taken apart. -/
def TableCheck (s : State) : Prop :=
  (∀ e : EntryId, EntryLaw (s.entry e))
    ∧ ∀ p : PortId,
      ((s.port p).order.Nodup ∧ (s.port p).order.length ≤ 12
        ∧ ∀ e : EntryId, e ∈ (s.port p).order ↔ (s.entry e).state ≠ .free ∧ (s.entry e).port = p)
      ∧ ((s.port p).queue.Nodup ∧ (s.port p).queue.length ≤ 16
        ∧ ∀ (b : Bool) (e : EntryId), (⟨e, b⟩ : PieceRef) ∈ (s.port p).queue ↔ namesQueued s p ⟨e, b⟩)
      ∧ ∀ e : EntryId, (s.port p).presented = some e → e ∈ (s.port p).order ∧ (s.entry e).state = .doneWaiting

/-- ConfigLaw's clause about slots, slot by slot. -/
def SlotCheck (s : State) : Prop :=
  ∀ n : StreamId, ((s.stream n).slotA.enabled = true → slotConfigured (s.stream n).slotA)
    ∧ ((s.stream n).slotB.enabled = true → slotConfigured (s.stream n).slotB)

/-- ConfigLaw's other clauses. -/
def RangeCheck (s : State) : Prop :=
  (∀ n : StreamId, (s.stream n).state ≠ .undefined →
      pageAligned (s.stream n).base = true ∧ linesOk (s.stream n).lines = true
        ∧ lineLengthOk (s.stream n).lineLength = true ∧ strideOk (s.stream n).stride = true
        ∧ (s.stream n).aperture.pastTop = false)
    ∧ ∀ p : PageId, (s.page p).stage ≠ .unassigned →
        pageAligned (s.page p).base = true ∧ (s.page p).size.toNat % 4096 = 0
          ∧ 1 ≤ (s.page p).size.toNat ∧ (s.page p).size.toNat ≤ 268435456

/-- Frame of page p newer than that of page q, as a test. -/
def newerPageTest (s : State) (p q : PageId) : Bool :=
  match (s.page p).frame, (s.page q).frame with
  | some f, some g => newer f g
  | _, _ => false

/-- FramesRecent and FramesInOrder, as tests. -/
def FramesCheck (s : State) : Prop :=
  ∀ n : StreamId,
    (∀ p ∈ (s.stream n).ring, ((s.page p).frame.all fun f => newer (s.stream n).nextFrame f) = true)
      ∧ ((s.stream n).ready.Pairwise fun p q => newerPageTest s q p = true)
      ∧ ∀ p ∈ (s.stream n).ring, (s.page p).isPending = true →
        (∀ q ∈ (s.stream n).ready, newerPageTest s p q = true)
          ∧ ∀ q ∈ (s.stream n).ring, (s.page q).isPending = true → p ≠ q → (s.page p).frame ≠ (s.page q).frame

/-- Everything that a safe state with no request waiting needs, as tests. -/
def SafeCheck (s : State) : Prop :=
  (EventQueueLaw s ∧ ArbiterLaw s ∧ RangeCheck s ∧ SlotCheck s ∧ RangesLaw s ∧ GeometryLaw s)
    ∧ (RingLaw s ∧ LifecycleLaw s ∧ FillLaw s ∧ ReadyLaw s ∧ HolderCheck s ∧ StageLaw s ∧ CountLaw s)
    ∧ (TableCheck s ∧ QuiesceLaw s ∧ ∀ p : PortId, s.links.waiting.get p = none) ∧ FramesCheck s

set_option synthInstance.maxSize 2000 in
set_option synthInstance.maxHeartbeats 400000 in
def decideSafe (s : State) : Decidable (SafeCheck s) := by
  unfold SafeCheck EventQueueLaw ArbiterLaw RangeCheck SlotCheck slotConfigured RangesLaw GeometryLaw GeometryFits CropFits
    RingLaw LifecycleLaw FillLaw ReadyLaw HolderCheck StageLaw CountLaw TableCheck EntryLaw namesQueued QuiesceLaw FramesCheck
  exact @instDecidableAnd _ _ inferInstance
    (@instDecidableAnd _ _ inferInstance (@instDecidableAnd _ _ inferInstance inferInstance))

theorem newerFrame_iff (a b : Word32) : newer a b = true ↔ NewerFrame a b := by
  unfold newer NewerFrame
  simp

theorem newerPage_of {s : State} {p q : PageId} (h : newerPageTest s p q = true) : NewerPage s p q := by
  unfold newerPageTest at h
  split at h
  next f g hf hg => exact ⟨f, g, hf, hg, (newerFrame_iff f g).1 h⟩
  next => cases h

theorem pending_iff (s : State) (n : StreamId) (p : PageId) :
    Pending s n p ↔ p ∈ (s.stream n).ring ∧ (s.page p).isPending = true := by
  unfold Pending Page.isPending
  simp

theorem frames_of {s : State} (h : FramesCheck s) : FramesRecent s ∧ FramesInOrder s := by
  refine ⟨fun n p hp f hf => ?_, fun n => ⟨?_, ?_, ?_⟩⟩
  · have := (h n).1 p hp
    rw [hf] at this
    exact (newerFrame_iff _ _).1 this
  · exact (h n).2.1.imp newerPage_of
  · intro p q hp hq
    obtain ⟨h1, h2⟩ := (pending_iff s n p).1 hp
    exact newerPage_of (((h n).2.2 p h1 h2).1 q hq)
  · intro p q hp hq
    obtain ⟨h1, h2⟩ := (pending_iff s n p).1 hp
    obtain ⟨h3, h4⟩ := (pending_iff s n q).1 hq
    exact ((h n).2.2 p h1 h2).2 q h3 h4

theorem safe_of {s : State} (h : SafeCheck s) : Safe s := by
  obtain ⟨⟨h1, h2, h3, h4, h5, h6⟩, ⟨g1, g2, g3, g4, g5, g6, g7⟩, ⟨k1, k2, k3⟩, _⟩ := h
  refine ⟨h1, h2, ⟨h3.1, ?_, h3.2⟩, h5, h6, ⟨g1, g2, g3, g4, ⟨?_, ?_⟩, g6, g7⟩,
    ⟨k1.1, fun p => ⟨(k1.2 p).1, ⟨(k1.2 p).2.1.1, (k1.2 p).2.1.2.1, fun r => (k1.2 p).2.1.2.2 r.second r.entry⟩,
      (k1.2 p).2.2⟩⟩, k2, ?_⟩
  · intro n x
    cases x
    · exact (h4 n).1
    · exact (h4 n).2
  · intro p x
    cases x
    · exact g5.1.1 p
    · exact g5.1.2 p
  · intro n x
    cases x
    · exact (g5.2 n).1
    · exact (g5.2 n).2
  · intro _ p r hr
    rw [k3 p] at hr
    cases hr

/-- A state that passes the tests is safe, with its frames in order. -/
theorem safe_of_test {s : State} (h : @decide (SafeCheck s) (decideSafe s) = true) :
    Safe s ∧ FramesRecent s ∧ FramesInOrder s := by
  have k := @of_decide_eq_true _ (decideSafe s) h
  exact ⟨safe_of k, frames_of k.2.2.2⟩

theorem live_good : Safe live ∧ FramesRecent live ∧ FramesInOrder live := safe_of_test (by decide +kernel)

theorem live_safe : Safe live := live_good.1

/-! ## Witnesses: the queue and the management port -/

theorem test_witness_StepTakesTheFrontEvent :
    (waiting .pinReset State.reset).pending = .pinReset :: [] ∧ State.reset.pending = [] := ⟨rfl, rfl⟩

theorem test_witness_FrameShiftsOutTheOldResponse :
    (frameOf (.popEvents 4 noTail) = some ([0x50, 4], []) ∧ ([0x50, 4] : List Byte) ≠ [] ∧ PortReady State.reset)
      ∧ frameOf (.boundaryEvent 0) = none ∧ Instr.boundaryEvent 0 ≠ .pinReset :=
  ⟨⟨rfl, by decide, rfl, rfl⟩, rfl, by decide⟩

theorem test_witness_RefusedCommandsChangeNothing :
    frameOf (.unknownCommand 0x33 noTail) = some ([0x33], []) ∧ ([0x33] : List Byte) ≠ [] ∧ PortReady State.reset
      ∧ (after (.unknownCommand 0x33 noTail) State.reset).response.head? ≠ some 0x00 :=
  ⟨rfl, by decide, ⟨rfl, rfl⟩, by decide +kernel⟩

theorem test_witness_NothingHappensUnderPinReset :
    down.resetn = false ∧ frameOf (.nop noTail) = some ([0x00], []) ∧ ¬ PortReady down :=
  ⟨rfl, rfl, fun h => Bool.noConfusion h.1⟩

theorem test_witness_FramesAndCommandsCorrespond :
    Instr.wellFormed (.nop sevenTail) = true ∧ frameOf (.nop sevenTail) = some ([0x00], List.replicate 7 true)
      ∧ (List.replicate 7 true).length < 8 := by decide

theorem test_witness_PinResetIsLeft :
    down.resetn = false
      ∧ ({ State.reset with awaitRise := true } : State).resetn = true
      ∧ ({ State.reset with awaitRise := true } : State).awaitRise = true := ⟨rfl, rfl, rfl⟩

theorem test_witness_FramesWithoutACommand :
    PortReady State.reset ∧ commandArgs 0x33 = none ∧ commandArgs 0x53 = some 4 ∧ ([0, 1, 2] : List Byte).length < 4 :=
  ⟨⟨rfl, rfl⟩, rfl, rfl, by decide⟩

theorem test_witness_NopReportsIdentityAndStatus : PortReady State.reset := ⟨rfl, rfl⟩

/-! ## Witnesses: streams and slots -/

/-- The premises on arguments and ranges under which SET-STREAM configures stream n. -/
abbrev SetStreamFits (n : StreamId) (a : SetStreamArgs) (t1 : Transform) (t2 : TakePolicy) (t3 : PoolPolicy)
    (s : State) : Prop :=
  (s.resetn = true ∧ s.awaitRise = false) ∧ a.stream.toNat = n.val ∧ a.base.toNat % 4096 = 0
    ∧ 1 ≤ a.lines.toNat ∧ a.lines.toNat ≤ 4096
    ∧ 256 ≤ a.lineLength.toNat ∧ a.lineLength.toNat ≤ 16384 ∧ a.lineLength.toNat % 16 = 0
    ∧ 256 ≤ a.stride.toNat ∧ a.stride.toNat ≤ 65536 ∧ a.stride.toNat % 16 = 0
    ∧ transformOf a.transform = some t1 ∧ takePolicyOf a.takePolicy = some t2 ∧ poolPolicyOf a.poolPolicy = some t3
    ∧ a.producerTag.toNat ≤ 63 ∧ a.base.toNat + a.lines.toNat * a.lineLength.toNat - 1 ≤ 0xFFFFFFFFFF
    ∧ ((s.stream n).state = .undefined ∨ (s.stream n).state = .off)
    ∧ (∀ ap ∈ definedApertures s, ap.stream = n ∧ ap.role = .producer
      ∨ (setStreamRange a).overlaps ap.range = false)
    ∧ ∀ p, (s.page p).stage ≠ .unassigned → (setStreamRange a).overlaps (s.page p).range = false

/-- An UNDEFINED stream at the upper bounds, up to the top of the address space; an OFF one at the lower bounds. -/
theorem test_witness_SetStreamDecides :
    SetStreamFits 7
        { stream := 7, base := 0xFFFC000000, lines := 4096, lineLength := 16384, stride := 65536, transform := 2,
          producerTag := 63, takePolicy := 1, poolPolicy := 1, fill := 0 } .weave .oldest .sink ringed
      ∧ SetStreamFits 0
        { stream := 0, base := 0, lines := 1, lineLength := 256, stride := 256, transform := 1, producerTag := 0,
          takePolicy := 0, poolPolicy := 0, fill := 0 } .vflip .newest .recycle ringed := by decide +kernel

/-- One value just out of range for each argument test, both refused states, both overlaps. -/
theorem test_witness_SetStreamDecides_refused :
    (live.resetn = true ∧ live.awaitRise = false) ∧ 7 < (8 : Byte).toNat ∧ (0x10800 : Addr).toNat % 4096 ≠ 0
      ∧ (0 : Word16).toNat = 0 ∧ 4096 < (4097 : Word16).toNat ∧ (240 : Word16).toNat < 256
      ∧ 16384 < (16400 : Word16).toNat ∧ (264 : Word16).toNat % 16 ≠ 0 ∧ (240 : Word32).toNat < 256
      ∧ 65536 < (65552 : Word32).toNat ∧ (264 : Word32).toNat % 16 ≠ 0 ∧ 2 < (3 : Byte).toNat ∧ 1 < (2 : Byte).toNat
      ∧ 63 < (64 : Byte).toNat
      ∧ 0xFFFFFFFFFF < (0xFFFFFFF000 : Addr).toNat + (17 : Word16).toNat * (256 : Word16).toNat - 1
      ∧ (live.stream 0).state = .running
      ∧ ((live.modStream 0 fun st => { st with state := .stopping }).stream 0).state = .stopping
      ∧ (∃ ap ∈ definedApertures ringed, ¬ (ap.stream = 0 ∧ ap.role = .producer)
          ∧ Range.overlaps ⟨0x20000, 256⟩ ap.range = true)
      ∧ ∃ p, (ringed.page p).stage ≠ .unassigned ∧ Range.overlaps ⟨0x100000, 256⟩ (ringed.page p).range = true := by
  decide +kernel

theorem test_witness_ClearStreamErasesTheRecord :
    (State.reset.resetn = true ∧ State.reset.awaitRise = false) ∧ 7 < (8 : Byte).toNat
      ∧ (7 : Byte).toNat = (7 : StreamId).val ∧ (State.reset.stream 7).state ≠ .off ∧ (ringed.stream 0).ring ≠ []
      ∧ (off.stream 0).state = .off ∧ (off.stream 0).ring = [] := by decide +kernel

/-- The premises on arguments and ranges under which SET-CONSUMER configures slot x of stream n. -/
abbrev SetConsumerFits (n : StreamId) (x : SlotId) (a : SetConsumerArgs) (s : State) : Prop :=
  a.enable = 0x01 ∧ a.tag.toNat ≤ 63 ∧ a.base.toNat % 4096 = 0
    ∧ 1 ≤ a.lines.toNat ∧ a.lines.toNat ≤ 4096
    ∧ 256 ≤ a.lineLength.toNat ∧ a.lineLength.toNat ≤ 16384 ∧ a.lineLength.toNat % 16 = 0
    ∧ a.cropLine.toNat ≤ 8191 ∧ a.cropByte.toNat ≤ 16368 ∧ a.cropByte.toNat % 16 = 0
    ∧ a.base.toNat + a.lines.toNat * a.lineLength.toNat - 1 ≤ 0xFFFFFFFFFF
    ∧ (∀ ap ∈ definedApertures s, ap.stream = n ∧ ap.role = .slot x
      ∨ (setConsumerRange a).overlaps ap.range = false)
    ∧ ∀ p, (s.page p).stage ≠ .unassigned → (setConsumerRange a).overlaps (s.page p).range = false

def slotArgs (slot enable : Byte) (base : Addr) (lines lineLength cropLine cropByte : Word16) : SetConsumerArgs :=
  { stream := 0, slot := slot, enable := enable, tag := 63, base := base, lines := lines, lineLength := lineLength,
    cropLine := cropLine, cropByte := cropByte, staleThreshold := 255 }

theorem test_witness_SetConsumerDecides :
    ((off.resetn = true ∧ off.awaitRise = false) ∧ (off.stream 0).state = .off
      ∧ (0 : Byte).toNat = (0 : StreamId).val ∧ (0 : Byte) = slotByte .a ∧ (1 : Byte) = slotByte .b)
      ∧ SetConsumerFits 0 .b (slotArgs 1 1 0xFFFC000000 4096 16384 8191 16368) ringed
      ∧ SetConsumerFits 0 .a (slotArgs 0 1 0x20000 1 256 0 0) ringed
      ∧ (slotArgs 0 0 1 0 0 9000 7).enable = 0x00 := by decide +kernel

theorem test_witness_SetConsumerDecides_refused :
    (live.resetn = true ∧ live.awaitRise = false) ∧ 7 < (8 : Byte).toNat ∧ 1 < (2 : Byte).toNat
      ∧ 63 < (64 : Byte).toNat ∧ 8191 < (8192 : Word16).toNat ∧ 16368 < (16384 : Word16).toNat
      ∧ (8 : Word16).toNat % 16 ≠ 0 ∧ (slotArgs 0 1 0x20000 0 256 0 0).lines.toNat = 0
      ∧ (live.stream 0).state ≠ .off ∧ (State.reset.stream 0).state ≠ .off
      ∧ (∃ ap ∈ definedApertures ringed, ¬ (ap.stream = 0 ∧ ap.role = .slot .a)
          ∧ (setConsumerRange (slotArgs 0 1 0x10000 1 256 0 0)).overlaps ap.range = true)
      ∧ ∃ p, (ringed.page p).stage ≠ .unassigned
          ∧ (setConsumerRange (slotArgs 0 1 0x100000 1 256 0 0)).overlaps (ringed.page p).range = true := by
  decide +kernel

theorem test_witness_FreezeWritesOneFlag :
    (off.resetn = true ∧ off.awaitRise = false) ∧ 7 < (8 : Byte).toNat ∧ 2 < (3 : Byte).toNat ∧ 1 < (2 : Byte).toNat
      ∧ (0 : Byte).toNat = (0 : StreamId).val ∧ (2 : Byte).toNat ≤ 2 ∧ (State.reset.stream 0).state = .undefined
      ∧ (off.stream 0).state ≠ .undefined ∧ (1 : Byte) = slotByte .a + 1 ∧ (2 : Byte) = slotByte .b + 1 := by
  decide +kernel

/-! ## Witnesses: pages -/

/-- One out-of-range value for each argument test, the largest page that is too large among them. -/
theorem test_witness_AssignPageDecides_badArg :
    (State.reset.resetn = true ∧ State.reset.awaitRise = false) ∧ 63 < (64 : Byte).toNat ∧ 7 < (8 : Byte).toNat
      ∧ (0x10001 : Addr).toNat % 4096 ≠ 0 ∧ (0 : Word32).toNat = 0 ∧ (0x1001 : Word32).toNat % 4096 ≠ 0
      ∧ 268435456 < (268439552 : Word32).toNat
      ∧ 0xFFFFFFFFFF < (0xFFFFFFF000 : Addr).toNat + (8192 : Word32).toNat - 1 := by decide

/-- The smallest page at the very top and the largest one are accepted sizes; the three refused states; both overlaps; and
a page clear of everything. -/
theorem test_witness_AssignPageDecides :
    ((63 : Byte).toNat = (63 : PageId).val ∧ (0xFFFFFFF000 : Addr).toNat % 4096 = 0
      ∧ (0xFFFFFFF000 : Addr).toNat + (4096 : Word32).toNat - 1 ≤ 0xFFFFFFFFFF ∧ (268435456 : Word32).toNat % 4096 = 0)
      ∧ (ringed.page 0).stage ≠ .unassigned ∧ (live.stream 0).state ≠ .off
      ∧ 8 ≤ ((off.modStream 0 fun st => { st with ring := [0, 1, 2, 3, 4, 5, 6, 7] }).stream 0).ring.length
      ∧ (∃ ap ∈ definedApertures ringed, Range.overlaps ⟨0x10000, 4096⟩ ap.range = true)
      ∧ (∃ q, (ringed.page q).stage ≠ .unassigned ∧ Range.overlaps ⟨0x102000, 8192⟩ (ringed.page q).range = true)
      ∧ (ringed.page 3).stage = .unassigned ∧ (ringed.stream 0).state = .off ∧ (ringed.stream 0).ring.length < 8
      ∧ (∀ ap ∈ definedApertures ringed, Range.overlaps ⟨0x103000, 4096⟩ ap.range = false)
      ∧ ∀ q, (ringed.page q).stage ≠ .unassigned → Range.overlaps ⟨0x103000, 4096⟩ (ringed.page q).range = false := by
  decide +kernel

theorem test_witness_UnassignPageDecides :
    ((ringed.resetn = true ∧ ringed.awaitRise = false) ∧ 63 < (64 : Byte).toNat ∧ (63 : Byte).toNat = (63 : PageId).val)
      ∧ (State.reset.page 63).stage = .unassigned
      ∧ ((live.page 0).owner = some 0 ∧ (live.page 0).stage ≠ .unassigned ∧ (live.stream 0).state = .running)
      ∧ (((ringed.modPage 0 fun pg => { pg with stage := .retiring, readCount := 1 }).page 0).stage = .retiring
          ∧ (ringed.stream 0).state = .off)
      ∧ (ringed.page 0).stage = .free ∧ (ringed.page 0).owner = some 0 := by decide +kernel

/-! ## Witnesses: lifecycle -/

theorem test_witness_StartStreamDecides :
    ((ringed.resetn = true ∧ ringed.awaitRise = false) ∧ 7 < (8 : Byte).toNat ∧ (0 : Byte).toNat = (0 : StreamId).val)
      ∧ (live.stream 0).state ≠ .off
      ∧ (∃ p ∈ (ringed.stream 0).ring,
          ((ringed.modPage 2 fun pg => { pg with stage := .retiring, readCount := 1 }).page p).stage ≠ .free)
      ∧ ((off.stream 0).state = .off ∧ (∀ p ∈ (off.stream 0).ring, (off.page p).stage = .free) ∧ ¬ GeometryFits off 0)
      ∧ (ringed.stream 0).state = .off ∧ (ringed.stream 0).ring = 0 :: [1, 2] ∧ (0 : PageId) ∉ [(1 : PageId), 2]
      ∧ (∀ q ∈ (ringed.stream 0).ring, (ringed.page q).stage = .free) ∧ GeometryFits ringed 0 := by
  have h : GeometryFits ringed 0 := by
    unfold GeometryFits CropFits
    decide +kernel
  have k : ¬ GeometryFits off 0 := fun h => absurd h.1 (by decide +kernel)
  simp only [h, k, not_false_eq_true, and_true]
  decide +kernel

theorem test_witness_StopStreamReleases :
    ((live.resetn = true ∧ live.awaitRise = false) ∧ 7 < (8 : Byte).toNat ∧ (0 : Byte).toNat = (0 : StreamId).val)
      ∧ (State.reset.stream 0).state = .undefined ∧ (off.stream 0).state = .off ∧ (live.stream 0).state = .running
      ∧ (∀ p ∈ (live.stream 0).ring, ((after (.stopStream 0 noTail) live).page p).stage = .free)
      ∧ ∃ p ∈ (busy.stream 0).ring, ((after (.stopStream 0 noTail) busy).page p).stage ≠ .free := by decide +kernel

/-! ## Witnesses: scheduler, events, snapshots, datapath reset -/

theorem test_witness_SetArbiterReloads :
    (State.reset.resetn = true ∧ State.reset.awaitRise = false)
      ∧ (∃ w ∈ ([1, 0, 8, 8] : List Byte), w.toNat = 0 ∨ 8 < w.toNat)
      ∧ (∃ w ∈ ([1, 1, 9, 8] : List Byte), w.toNat = 0 ∨ 8 < w.toNat)
      ∧ ∀ w ∈ ([1, 8, 1, 8] : List Byte), 1 ≤ w.toNat ∧ w.toNat ≤ 8 := by decide

theorem test_witness_SetEventsConfigures :
    (State.reset.resetn = true ∧ State.reset.awaitRise = false) ∧ (0 : Byte).toNat = 0 ∧ 32 < (33 : Byte).toNat
      ∧ (1 ≤ (1 : Byte).toNat ∧ (1 : Byte).toNat ≤ 32) ∧ 1 ≤ (32 : Byte).toNat ∧ (32 : Byte).toNat ≤ 32 := by decide

/-- The event queue full, with one record lost. -/
def full : State := { State.reset with events := List.replicate 32 { kind := .datapathQuiet }, lost := 1, attn := true }

theorem test_witness_PopEventsRemovesTheOldest :
    (full.resetn = true ∧ full.awaitRise = false) ∧ (0 : Byte).toNat = 0 ∧ 4 < (5 : Byte).toNat
      ∧ (1 ≤ (1 : Byte).toNat ∧ (4 : Byte).toNat ≤ 4) ∧ full.events ≠ [] ∧ 0 < full.lost
      ∧ State.reset.events = [] ∧ State.reset.lost = 0 := by decide +kernel

theorem test_witness_StreamAndPageSnapshots :
    (live.resetn = true ∧ live.awaitRise = false) ∧ 7 < (8 : Byte).toNat ∧ (7 : Byte).toNat = (7 : StreamId).val
      ∧ 63 < (64 : Byte).toNat ∧ (63 : Byte).toNat = (63 : PageId).val ∧ (live.page 63).owner = none
      ∧ (live.page 2).owner = some 0 ∧ (live.stream 0).ring[2]? = some 2
      ∧ ∀ j, j < 2 → (live.stream 0).ring[j]? ≠ some 2 := by decide +kernel

theorem test_witness_ReadCountersSnapshotAndClear :
    (live.resetn = true ∧ live.awaitRise = false) ∧ 1 < (2 : Byte).toNat ∧ 3 < (4 : Byte).toNat
      ∧ ((1 : Byte).toNat ≤ 1 ∧ 7 < (8 : Byte).toNat) ∧ ((1 : Byte).toNat = 1 ∧ 1 < (2 : Byte).toNat)
      ∧ ((2 : Byte).toNat = 2 ∧ 3 < (4 : Byte).toNat) ∧ (7 : Byte).toNat = (7 : StreamId).val
      ∧ (1 : Byte) = slotByte .b ∧ (3 : Byte).toNat = (3 : PortId).val := by decide

theorem test_witness_DatapathResetClearsTraffic :
    (State.reset.resetn = true ∧ State.reset.awaitRise = false) ∧ (0xA4 : Byte) ≠ 0xA5
      ∧ ((round 3 1 2 1 0).entry 0).undelivered = true ∧ ((round 3 1 2 1 0).entry 47).undelivered = false
      ∧ (∃ e, ((round 3 1 2 1 0).entry e).state ≠ .free) ∧ (∀ e, (State.reset.entry e).state = .free)
      ∧ ((live.page 0).stage ≠ .unassigned ∧ (live.page 0).stage ≠ .free) ∧ (live.page 2).stage = .free := by
  decide +kernel

/-! ## Witnesses: boundary and take events -/

def fields : State := live.modStream 0 fun st => { st with transform := .weave }

def heldLive : State := live.modStream 0 fun st => { st with freeze := true }

def stillSlot : State := live.modSlot 0 .a fun sl => { sl with freeze := true }

theorem test_witness_StrobesIgnoredHeldOrFrozen :
    ((off.stream 0).state ≠ .running ∧ (live.slot 0 .b).enabled = false)
      ∧ (fields.resetn = true ∧ (fields.stream 0).state = .running ∧ (fields.stream 0).transform = .weave
      ∧ (fields.stream 0).parity = false)
      ∧ (Closing heldLive 0 ∧ (heldLive.stream 0).starved = false ∧ (heldLive.stream 0).freeze = true)
      ∧ stillSlot.resetn = true ∧ (stillSlot.stream 0).state = .running ∧ (stillSlot.slot 0 .a).enabled = true
      ∧ (stillSlot.slot 0 .a).freeze = true := by
  unfold Closing
  decide +kernel

/-- A starved stream; in `dry` no page is to be had, in `sipping` the ready page can be recycled. -/
def thirsty : State := live.modStream 0 fun st => { st with starved := true, fillPage := none, starvedFrames := 7 }

def dry : State := (tight.modStream 0 fun st => { st with starved := true, fillPage := none, poolPolicy := .sink })

def sipping : State := (tight.modStream 0 fun st => { st with starved := true, fillPage := none }).modPage 0 fun pg =>
  { pg with stage := .retiring, writeCount := 1 }

/-- Page 2 is the first FREE one when pages 0 and 1 are not. -/
theorem firstFree_two {s : State} (h : (s.stream 0).ring = [0, 1, 2] ∧ (s.page 2).stage = .free
    ∧ (s.page 0).stage ≠ .free ∧ (s.page 1).stage ≠ .free) : FirstFree s 0 2 :=
  ⟨[0, 1], [], h.1, h.2.1, by simpa using h.2.2⟩

/-- The only ready page, unheld and unread, is the one to recycle. -/
theorem recyclable_of {s : State} {n : StreamId} {p : PageId}
    (h : ((∀ q ∈ (s.stream n).ring, (s.page q).stage ≠ .free) ∧ (s.stream n).poolPolicy = .recycle)
      ∧ ((s.page p).stage = .published ∧ (s.page p).holdA = false ∧ (s.page p).holdB = false ∧ (s.page p).readCount = 0)
      ∧ (s.stream n).ready = [p]) : Recyclable s n p :=
  ⟨h.1.1, h.1.2, h.2.1.1, h.2.1.2.1, h.2.1.2.2.1, h.2.1.2.2.2, [], [], h.2.2, by simp⟩

theorem test_witness_SunkFrameAndResumption :
    (Closing dry 0 ∧ (dry.stream 0).starved = true ∧ NoFillPage dry 0)
      ∧ (Closing thirsty 0 ∧ (thirsty.stream 0).starved = true ∧ FirstFree thirsty 0 2)
      ∧ Closing sipping 0 ∧ (sipping.stream 0).starved = true ∧ Recyclable sipping 0 1 := by
  have h : Closing thirsty 0 ∧ (thirsty.stream 0).starved = true := by
    unfold Closing
    decide +kernel
  have k : Closing sipping 0 ∧ (sipping.stream 0).starved = true := by
    unfold Closing
    decide +kernel
  refine ⟨?_, ⟨h.1, h.2, firstFree_two (by decide +kernel)⟩, k.1, k.2, recyclable_of (by decide +kernel)⟩
  unfold Closing NoFillPage
  decide +kernel

/-- A boundary on stream 0 closes a frame on its fill page 0. -/
def ClosesPageZero (s : State) : Prop :=
  Closing s 0 ∧ (s.stream 0).starved = false ∧ (s.stream 0).freeze = false ∧ (s.stream 0).fillPage = some 0
    ∧ (s.page 0).stage = .filling

theorem test_witness_CloseWithWritesInFlight :
    ClosesPageZero busy ∧ 0 < (busy.page 0).writeCount ∧ FirstFree busy 0 2 := by
  refine ⟨?_, by decide +kernel, firstFree_two (by decide +kernel)⟩
  unfold ClosesPageZero Closing
  decide +kernel

/-- Stream 0 right after its start: page 0 is filled, pages 1 and 2 are FREE. -/
def started : State := after (.startStream 0 noTail) ringed

theorem started_good : Safe started ∧ FramesRecent started ∧ FramesInOrder started := safe_of_test (by decide +kernel)

theorem test_witness_CloseDrainedPublishes :
    (ClosesPageZero started ∧ (started.page 0).writeCount = 0 ∧ (started.page 0).damaged = false
      ∧ 0 ∈ (started.stream 0).ring
      ∧ (∀ q ∈ (started.stream 0).ring, (started.page q).stage ≠ .closing ∧ (started.page q).stage ≠ .sealed)
      ∧ (started.stream 0).ready = []) ∧ FirstFree started 0 1 := by
  refine ⟨?_, [0], [2], by decide +kernel⟩
  unfold ClosesPageZero Closing
  decide +kernel

/-- What closing page 0 does before the chain, as the general clauses of the closing statements say it. -/
def numbered (s : State) : State :=
  (s.modStream 0 fun st =>
      { st with parity := false, nextFrame := st.nextFrame + 1, closed := st.closed + 1, fillPage := none }).modPage 0
    fun pg => { pg with frame := some (s.stream 0).nextFrame, stage := if pg.writeCount = 0 then .sealed else .closing }

theorem frameClosed_inFlight {s : State} (h : (s.page 0).writeCount ≠ 0) : FrameClosed 0 0 s (numbered s) :=
  ⟨_, rfl, fun _ => rfl, fun k => absurd k h⟩

/-- As started, with a frame closed on page 1 that still waits for a write of entry 0: a drained close waits behind it. -/
def behind : State :=
  { ((started.modStream 0 fun st => { st with nextFrame := 1 }).modPage 1 fun pg =>
      { pg with stage := .closing, frame := some 0, writeCount := 1 }).modPort 0 fun pt => { pt with order := [0] } with
    entries := setRow started.entries 0
      { Entry.blank with
        state := .issued, kind := .write, length := 1, disposition := .aperture, target := some ⟨0, .producer, 1⟩,
        pieces := [{ addr := 0x101000, length := 1, data := [], status := .outstanding, readData := [] }] } }

theorem behind_good : Safe behind ∧ FramesRecent behind ∧ FramesInOrder behind := safe_of_test (by decide +kernel)

/-- The drained frame waits in SEALED, since page 1 is older and CLOSING. -/
theorem behind_closed : FrameClosed 0 0 behind (numbered behind) := by
  refine ⟨_, rfl, fun h => absurd (by decide +kernel) h, fun _ => ?_⟩
  refine Chain.wait _ 1 ⟨⟨by decide +kernel, Or.inl (by decide +kernel)⟩, ?_⟩ (by decide +kernel)
  rintro q ⟨hr, hs⟩ hq
  have h : ∀ q ∈ ((numbered behind).stream 0).ring,
      ((numbered behind).page q).stage = .closing ∨ ((numbered behind).page q).stage = .sealed → q ≠ 1 →
        newerPageTest (numbered behind) q 1 = true := by decide +kernel
  exact newerPage_of (h q hr hs hq)

theorem test_witness_CloseDrainedPublishes_general :
    (Safe behind ∧ FramesRecent behind ∧ FramesInOrder behind) ∧ ClosesPageZero behind
      ∧ FrameClosed 0 0 behind (numbered behind) ∧ FirstFree (numbered behind) 0 2 := by
  refine ⟨behind_good, ?_, behind_closed, firstFree_two (by decide +kernel)⟩
  unfold ClosesPageZero Closing
  decide +kernel

/-- Entry 0 of port 0 has its only piece outstanding, directed to this page of stream 0. -/
def inFlight (k : Access) (p : PageId) (s : State) : State :=
  (s.modEntry 0 fun _ =>
      { Entry.blank with
        state := .issued, kind := k, length := 1, disposition := .aperture, target := some ⟨0, .producer, p⟩,
        pieces := [{ addr := 0x100000, length := 1, data := [], status := .outstanding, readData := [] }] }).modPort 0
    fun pt => { pt with order := [0] }

/-- No FREE page; the fill page has a write in flight; the ready page is held by slot A in `heldTight`. -/
def busyTight : State := (inFlight .write 0 (tight.modPage 0 fun pg => { pg with writeCount := 1 })).modStream 0 fun st =>
  { st with ring := [0, 1] }

def heldTight : State := (busyTight.modPage 1 fun pg => { pg with holdA := true }).modSlot 0 .a fun sl =>
  { sl with held := some 1, lastTaken := some 0 }

/-- The two states without page 2, which belongs to no ring here. -/
def busyTightPool : State := busyTight.modPage 2 fun _ => Page.blank

def heldTightPool : State := heldTight.modPage 2 fun _ => Page.blank

theorem test_witness_CloseStarves :
    (ClosesPageZero heldTightPool ∧ 0 < (heldTightPool.page 0).writeCount ∧ NoFillPage heldTightPool 0)
      ∧ (Safe heldTightPool ∧ FramesRecent heldTightPool ∧ FramesInOrder heldTightPool)
      ∧ FrameClosed 0 0 heldTightPool (numbered heldTightPool) ∧ NoFillPage (numbered heldTightPool) 0 := by
  refine ⟨?_, safe_of_test (by decide +kernel), frameClosed_inFlight (by decide +kernel), ?_⟩
  · unfold ClosesPageZero Closing NoFillPage
    decide +kernel
  · unfold NoFillPage
    decide +kernel

theorem test_witness_CloseRecycles :
    (ClosesPageZero busyTightPool ∧ 0 < (busyTightPool.page 0).writeCount ∧ (busyTightPool.stream 0).ready = [] ++ 1 :: [])
      ∧ Recyclable busyTightPool 0 1
      ∧ (Safe busyTightPool ∧ FramesRecent busyTightPool ∧ FramesInOrder busyTightPool)
      ∧ FrameClosed 0 0 busyTightPool (numbered busyTightPool) ∧ Recyclable (numbered busyTightPool) 0 1 := by
  refine ⟨?_, recyclable_of (by decide +kernel), safe_of_test (by decide +kernel),
    frameClosed_inFlight (by decide +kernel), recyclable_of (by decide +kernel)⟩
  unfold ClosesPageZero Closing
  decide +kernel

/-- A drained stream whose two other pages are RETIRING: its frame is published and recycled in one boundary. -/
def squeezed : State :=
  ((started.modPage 1 fun pg => { pg with stage := .retiring, readCount := 1 }).modPage 2 fun pg =>
    { pg with stage := .retiring, readCount := 1 })

/-- The frame of page 0 published, before any recycling. -/
def squeezedOut : State :=
  ((numbered squeezed).modPage 0 fun pg => { pg with stage := .published }).modStream 0 fun st =>
    { st with ready := st.ready ++ [0], published := st.published + 1 }

theorem test_witness_CloseRecycles_own : FrameClosed 0 0 squeezed squeezedOut ∧ Recyclable squeezedOut 0 0 := by
  have only : ∀ q, Pending (numbered squeezed) 0 q → q = 0 := by
    rintro q ⟨hr, hs⟩
    have h : ∀ q ∈ ((numbered squeezed).stream 0).ring,
        ((numbered squeezed).page q).stage = .closing ∨ ((numbered squeezed).page q).stage = .sealed → q = 0 := by
      decide +kernel
    exact h q hr hs
  have none : ∀ q, ¬ Pending squeezedOut 0 q := by
    rintro q ⟨hr, hs⟩
    have h : ∀ q ∈ (squeezedOut.stream 0).ring,
        ¬ ((squeezedOut.page q).stage = .closing ∨ (squeezedOut.page q).stage = .sealed) := by decide +kernel
    exact h q hr hs
  refine ⟨⟨_, rfl, fun h => absurd (by decide +kernel) h, fun _ => ?_⟩, recyclable_of (by decide +kernel)⟩
  refine Chain.publish _ squeezedOut _ 0 ⟨⟨by decide +kernel, Or.inr (by decide +kernel)⟩, fun q h k => absurd (only q h) k⟩
    (by decide +kernel) (by decide +kernel) ?_ (Chain.nothing _ none)
  refine ⟨squeezedOut, rfl, [], fun q => ⟨fun h => (nomatch h), fun h => ?_⟩, by decide +kernel, fun _ _ => rfl, ?_,
    fun _ _ => rfl, ⟨rfl, rfl, rfl, rfl, rfl⟩, rfl⟩
  · have hq : q = 0 := by simpa using (show q ∈ ([0] : List PageId) from h.1)
    exact absurd (by subst hq; decide +kernel) h.2.2.2.2.1
  · intro q h
    cases h

/-- Slot A has taken the only frame; its stale threshold is 1. -/
def seen : State := live.modSlot 0 .a fun sl => { sl with held := some 1, lastTaken := some 0, staleThreshold := 1 }

def long : State := live.modSlot 0 .a fun sl =>
  { sl with held := some 1, lastTaken := some 0, staleThreshold := 255, repeatsInRow := 255, staleRaised := true }

def early : State := live.modSlot 0 .a fun sl => { sl with lastTaken := some 0, staleThreshold := 2 }

theorem test_witness_RepeatAndStaleTest :
    (seen.resetn = true ∧ (seen.stream 0).state = .running ∧ (seen.slot 0 .a).enabled = true
      ∧ (seen.slot 0 .a).freeze = false ∧ candidate seen 0 .a = none ∧ 1 = min ((seen.slot 0 .a).repeatsInRow + 1) 255
      ∧ (seen.slot 0 .a).staleThreshold ≠ 0 ∧ (seen.slot 0 .a).staleThreshold.toNat ≤ 1
      ∧ (seen.slot 0 .a).staleRaised = false)
      ∧ (candidate long 0 .a = none ∧ 255 = min ((long.slot 0 .a).repeatsInRow + 1) 255
          ∧ (long.slot 0 .a).staleRaised = true)
      ∧ candidate early 0 .a = none ∧ 1 < (early.slot 0 .a).staleThreshold.toNat := by decide +kernel

theorem test_witness_CandidateOfATake :
    (∃ isNewer : PageId → Prop, ∀ p, isNewer p ↔ (seen.slot 0 .a).lastTaken = none
      ∨ ∃ l f, (seen.slot 0 .a).lastTaken = some l ∧ (seen.page p).frame = some f
          ∧ 1 ≤ (f - l).toNat ∧ (f - l).toNat ≤ 2 ^ 31 - 1)
      ∧ (seen.stream 0).takePolicy = .newest
      ∧ ((seen.modStream 0 fun st => { st with takePolicy := .oldest }).stream 0).takePolicy = .oldest :=
  ⟨⟨_, fun _ => Iff.rfl⟩, by decide +kernel⟩

/-- Slot A holds page 1; page 0 carries a newer frame; the retirement test will find page 1 unheld. -/
def succeeding (policy : TakePolicy) : State :=
  (((live.modStream 0 fun st =>
      { st with ready := [1, 0], fillPage := some 2, nextFrame := 2, takePolicy := policy }).modPage 0 fun pg =>
        { pg with stage := .published, frame := some 1 }).modPage 2 fun pg => { pg with stage := .filling }).modPage 1
      (fun pg => { pg with holdA := true }) |>.modSlot 0 .a fun sl => { sl with held := some 1, lastTaken := some 0 }

/-- A first take; and under either policy a take from a slot that holds an older page, which then retires. -/
theorem test_witness_SuccessfulTake :
    (Safe live ∧ live.resetn = true ∧ (live.stream 0).state = .running ∧ (live.slot 0 .a).enabled = true
      ∧ (live.slot 0 .a).freeze = false ∧ candidate live 0 .a = some 1)
      ∧ (Safe (succeeding .newest) ∧ candidate (succeeding .newest) 0 .a = some 0
        ∧ ((succeeding .newest).slot 0 .a).held = some 1
        ∧ ((after (.takeEvent 0 .a) (succeeding .newest)).stream 0).ready = [0]
        ∧ ((after (.takeEvent 0 .a) (succeeding .newest)).page 1).stage = .free)
      ∧ Safe (succeeding .oldest) ∧ candidate (succeeding .oldest) 0 .a = some 0
        ∧ ((after (.takeEvent 0 .a) (succeeding .oldest)).page 1).stage = .free :=
  ⟨⟨live_safe, by decide +kernel⟩, ⟨(safe_of_test (by decide +kernel)).1, by decide +kernel⟩,
    (safe_of_test (by decide +kernel)).1, by decide +kernel⟩

/-! ## Witnesses: steering -/

def reading (addr : Addr) (len : BitVec 4) (tag : BitVec 6) : Request :=
  { kind := .read, addr := addr, len := len, id := 0, tag := tag, beats := [] }

def writing (addr : Addr) (len : BitVec 4) (tag : BitVec 6) : Request :=
  { kind := .write, addr := addr, len := len, id := 0, tag := tag, beats := [] }

theorem test_witness_RequestOutsideApertures :
    ((reading 0xFFFFFFFF00 15 0).addr.toNat + 16 * ((reading 0xFFFFFFFF00 15 0).len.toNat + 1) - 1 ≤ 0xFFFFFFFFFF
      ∧ OutsideApertures live (reading 0xFFFFFFFF00 15 0)
      ∧ ∀ q, (live.page q).stage ≠ .unassigned → (reqRange (reading 0xFFFFFFFF00 15 0)).overlaps (live.page q).range = false)
      ∧ OutsideApertures live (reading 0x101FF0 1 0) ∧ (live.page 1).stage ≠ .unassigned
      ∧ (reqRange (reading 0x101FF0 1 0)).overlaps (live.page 1).range = true
      ∧ ∀ q', q' ≠ 1 → (live.page q').stage ≠ .unassigned →
          (reqRange (reading 0x101FF0 1 0)).overlaps (live.page q').range = true →
          max 0x101FF0 (live.page 1).base.toNat < max 0x101FF0 (live.page q').base.toNat := by
  unfold OutsideApertures
  decide +kernel

def producerAperture : Aperture := ⟨0, .producer, ⟨0x10000, 1024⟩⟩

def slotAperture : Aperture := ⟨0, .slot .a, ⟨0x20000, 512⟩⟩

theorem test_witness_RequestRefusedRange :
    0xFFFFFFFFFF < (reading 0xFFFFFFFFF1 0 0).addr.toNat + 16 * ((reading 0xFFFFFFFFF1 0 0).len.toNat + 1) - 1
      ∧ (reading 0x103F0 1 0).addr.toNat + 16 * ((reading 0x103F0 1 0).len.toNat + 1) - 1 ≤ 0xFFFFFFFFFF
      ∧ producerAperture ∈ definedApertures live
      ∧ (reqRange (reading 0x103F0 1 0)).overlaps producerAperture.range = true
      ∧ (∀ b ∈ definedApertures live, (reqRange (reading 0x103F0 1 0)).inside b.range = false)
      ∧ ∀ b ∈ definedApertures live, b.stream ≠ producerAperture.stream →
          (reqRange (reading 0x103F0 1 0)).overlaps b.range = true →
          max 0x103F0 producerAperture.range.base < max 0x103F0 b.range.base := by decide +kernel

def stoppingState : State := live.modStream 0 fun st => { st with state := .stopping }

theorem live_ranges : RangesLaw live := live_safe.2.2.2.1

theorem ringed_ranges : RangesLaw ringed := by
  unfold RangesLaw
  decide +kernel

theorem stoppingState_ranges : RangesLaw stoppingState := by
  unfold RangesLaw
  decide +kernel

/-- The last beat of the aperture; OFF, STOPPING and RUNNING; a misaligned request, a wrong tag, a write through a slot. -/
theorem test_witness_RequestRefusedInsideAnAperture :
    (RangesLaw ringed ∧ producerAperture ∈ definedApertures ringed
      ∧ (reqRange (reading 0x103F0 0 0)).inside producerAperture.range = true ∧ (ringed.stream 0).state = .off)
      ∧ (RangesLaw stoppingState ∧ producerAperture ∈ definedApertures stoppingState
        ∧ (stoppingState.stream 0).state = .stopping)
      ∧ (RangesLaw live ∧ producerAperture ∈ definedApertures live ∧ slotAperture ∈ definedApertures live
        ∧ (live.stream 0).state = .running)
      ∧ ((reading 0x10008 0 0).addr.toNat % 16 ≠ 0 ∧ (reqRange (reading 0x10008 0 0)).inside producerAperture.range = true)
      ∧ ((reading 0x10000 0 1).tag ≠ (live.stream 0).producerTag
        ∧ (reqRange (reading 0x10000 0 1)).inside producerAperture.range = true)
      ∧ (writing 0x20000 0 5).kind = .write ∧ (reqRange (writing 0x20000 0 5)).inside slotAperture.range = true
      ∧ (reading 0x20000 0 4).tag ≠ (live.slot 0 .a).tag :=
  ⟨⟨ringed_ranges, by decide +kernel⟩, ⟨stoppingState_ranges, by decide +kernel⟩, ⟨live_ranges, by decide +kernel⟩,
    by decide +kernel, by decide +kernel, by decide +kernel⟩

theorem thirsty_ranges : RangesLaw thirsty := by
  unfold RangesLaw
  decide +kernel

/-- Requests of both kinds, one that ends at a line's end and one that crosses it. -/
theorem test_witness_ProducerRequest :
    (RangesLaw live ∧ producerAperture ∈ definedApertures live ∧ producerAperture.role = .producer
      ∧ (live.stream 0).state = .running ∧ (live.stream 0).starved = false ∧ (live.stream 0).fillPage = some 0
      ∧ (writing 0x100F0 0 0).tag = (live.stream 0).producerTag
      ∧ (reqRange (writing 0x100F0 0 0)).inside producerAperture.range = true
      ∧ (reqRange (reading 0x100F0 1 0)).inside producerAperture.range = true
      ∧ (0x100F0 : Addr).toNat % 16 = 0 ∧ 0xF0 = (0x100F0 : Addr).toNat - (live.stream 0).base.toNat)
      ∧ RangesLaw thirsty ∧ producerAperture ∈ definedApertures thirsty ∧ (thirsty.stream 0).starved = true
      ∧ (thirsty.stream 0).state = .running :=
  ⟨⟨live_ranges, by decide +kernel⟩, thirsty_ranges, by decide +kernel⟩

def held : State := (live.modSlot 0 .a fun sl => { sl with held := some 1, lastTaken := some 0 }).modPage 1 fun pg =>
  { pg with holdA := true }

theorem held_ranges : RangesLaw held := by
  unfold RangesLaw
  decide +kernel

theorem test_witness_SlotRequest :
    (RangesLaw live ∧ slotAperture ∈ definedApertures live ∧ slotAperture.role = .slot .a
      ∧ (live.stream 0).state = .running ∧ (reading 0x200F0 1 5).tag = (live.slot 0 .a).tag
      ∧ (reqRange (reading 0x200F0 1 5)).inside slotAperture.range = true ∧ (0x200F0 : Addr).toNat % 16 = 0
      ∧ (live.slot 0 .a).held = none)
      ∧ RangesLaw held ∧ slotAperture ∈ definedApertures held ∧ (held.slot 0 .a).held = some 1
      ∧ (held.stream 0).state = .running :=
  ⟨⟨live_ranges, by decide +kernel⟩, held_ranges, by decide +kernel⟩

theorem test_witness_CutKeepsTheRequest :
    (256 ≤ 256 ∧ 256 % 16 = 0 ∧ 240 % 16 = 0 ∧ 1 ≤ 16 ∧ 16 ≤ 16 ∧ (List.replicate 16 emptyBeat).length = 16)
      ∧ cutLine 256 240 16 = [(240, 1), (256, 15)] ∧ cutLine 256 240 1 = [(240, 1)] := by decide

theorem test_witness_PiecesStayInsideTheirPage :
    Safe live ∧ (steer live 0 (writing 0x100F0 1 0)).target = some ⟨0, .producer, 0⟩
      ∧ (steer live 0 (writing 0x100F0 1 0)).pieces.length = 2 := ⟨live_safe, by decide +kernel⟩

theorem test_witness_TransformsAreInjective :
    0 < (fields.stream 0).lineLength.toNat ∧ (fields.stream 0).lineLength.toNat ≤ (fields.stream 0).stride.toNat
      ∧ 1023 < (fields.stream 0).lines.toNat * (fields.stream 0).lineLength.toNat
      ∧ producerAddress { fields.stream 0 with parity := true } (fields.page 0) 1023 =
          producerAddress { fields.stream 0 with parity := true } (fields.page 0) 1023 := by decide +kernel

/-! ## Witnesses: traffic -/

def crowded : State := State.reset.modPort 0 fun pt => { pt with order := List.replicate 12 0 }

theorem test_witness_AcceptanceTakesAnEntry :
    (live.resetn = true ∧ live.links.waiting.get 0 = none ∧ (live.entry 0).state = .free
      ∧ (∀ e', e' < (0 : EntryId) → (live.entry e').state ≠ .free) ∧ (live.port 0).order.length < 12
      ∧ (live.port 0).queue.length + (steer live 0 (writing 0x100F0 1 0)).pieces.length ≤ 16 ∧ live.indications = 0)
      ∧ (steer live 0 (writing 0x100F0 1 0)).target ≠ none ∧ (steer live 0 (writing 0x100F0 1 0)).report = none
      ∧ (steer live 0 (writing 0x100F0 1 9)).report ≠ none ∧ (steer live 0 (writing 0x100F0 1 9)).target = none
      ∧ crowded.links.waiting.get 0 = none ∧ 12 ≤ (crowded.port 0).order.length
      ∧ (∀ e, ((mapAll State.reset.entries fun _ en => { en with state := .orphaned }).get e).state ≠ .free)
      ∧ 16 < ((State.reset.modPort 0 fun pt => { pt with queue := List.replicate 16 ⟨0, false⟩ }).port 0).queue.length
          + (steer State.reset 0 (reading 0 0 0)).pieces.length := by decide +kernel

/-- One unused indication, and none; two pieces. -/
theorem test_witness_AcceptanceTakesAnEntry_indications :
    (∀ q, (({ live with indications := 1 } : State).port q).queue = [])
      ∧ 1 ≤ (({ live with indications := 1 } : State).port 0).weight
      ∧ (steer { live with indications := 1 } 0 (writing 0x100F0 1 0)).pieces.length = 2
      ∧ (after (.acceptance 0 (writing 0x100F0 1 0) calm) { live with indications := 1 }).links.sentPieces.length = 1
      ∧ ((after (.acceptance 0 (writing 0x100F0 1 0) calm) { live with indications := 1 }).port 0).queue = [⟨0, true⟩] := by
  decide +kernel

/-- Port 0 holds 12 entries, of which the first is presented, and a request waits on its link. -/
def blocked : State :=
  { crowded.modPort 0 fun pt => { pt with presented := some 0 } with
    entries := setRow crowded.entries 0 { Entry.blank with state := .doneWaiting, prepared := some refusedReset },
    links := { crowded.links with waiting := setRow crowded.links.waiting 0 (some (reading 0x5000 0 3)) } }

/-- The same state with the wait cleared. -/
def unblocked : State := { blocked with links := { blocked.links with waiting := setRow blocked.links.waiting 0 none } }

theorem test_witness_AcceptanceTakesAnEntry_waiting :
    blocked.resetn = true ∧ blocked.links.waiting.get 0 = some (reading 0x5000 0 3)
      ∧ unblocked.links.waiting.get 0 = none ∧ (∀ q, q ≠ 0 → unblocked.links.waiting.get q = blocked.links.waiting.get q)
      ∧ unblocked = { blocked with links := { blocked.links with waiting := unblocked.links.waiting } } := by decide +kernel

/-- A delivery makes room, and the waiting request is accepted in the same event (R122). -/
theorem test_delivery_acceptsTheWaitingRequest :
    ((after (.acceptance 0 (reading 0x6000 0 4) calm) blocked).port 0).accepted = 0
      ∧ (after (.delivery 0) blocked).links.waiting.get 0 = none
      ∧ ((after (.delivery 0) blocked).port 0).accepted = 1
      ∧ ((after (.delivery 0) blocked).entry 0).tag = 3 := by decide +kernel

/-- A grant that empties a place in the issue queue does the same (R138). -/
theorem test_indication_acceptsTheWaitingRequest :
    let s : State :=
      { portAt 0 1 1 State.reset with
        links := { Links.quiet with waiting := setRow Links.quiet.waiting 0 (some (reading 0x5000 0 3)) } }
    let full : State := s.modPort 0 fun pt => { pt with queue := List.replicate 16 ⟨0, false⟩ }
    (after (.indication calm) full).links.waiting.get 0 = none
      ∧ ((after (.indication calm) full).port 0).queue.length = 16 := by decide +kernel

theorem test_witness_IndicationStands :
    State.reset.resetn = true ∧ ∀ p, (State.reset.port p).queue = [] := by decide +kernel

/-- The premises on the class and the granted port. -/
abbrev GrantFits (urg : UrgLevels) (s : State) (g : PortId) (member : PortId → Bool) : Prop :=
  s.resetn = true ∧ s.indications = 0
    ∧ (∀ p, member p = true ↔ (s.port p).queue ≠ []
      ∧ (urg.get p = true ∨ ∀ q, urg.get q = true → (s.port q).queue = []))
    ∧ (∀ p, 1 ≤ (s.port p).weight) ∧ member g = true

theorem table_of {s : State} (h : @decide (SafeCheck s) (decideSafe s) = true) : TableLaw s :=
  (safe_of_test h).1.2.2.2.2.2.2.1

theorem test_witness_GrantFollowsCreditAndRotation :
    (TableLaw (round 1 0 1 0 1) ∧ GrantFits calm (round 1 0 1 0 1) 2 (fun _ => true)
      ∧ 0 < ((round 1 0 1 0 1).port 2).credit
      ∧ ∀ k : Nat, k < ((2 : PortId) - (round 1 0 1 0 1).pointer).val →
          ¬ 0 < ((round 1 0 1 0 1).port ((round 1 0 1 0 1).pointer + Fin.ofNat 4 k)).credit)
      ∧ TableLaw (round 3 0 0 1 3) ∧ GrantFits urgentTwo (round 3 0 0 1 3) 2 (fun p => p == 2)
      ∧ (∀ p : PortId, (p == 2) = true → ((round 3 0 0 1 3).port p).credit = 0)
      ∧ ∀ k : Nat, k < ((2 : PortId) - (round 3 0 0 1 3).pointer).val →
          ¬ ((round 3 0 0 1 3).pointer + Fin.ofNat 4 k == (2 : PortId)) = true :=
  ⟨⟨table_of (by decide +kernel), by decide +kernel⟩, table_of (by decide +kernel), by decide +kernel⟩

def done (tag : BitVec 7) (beats : Nat) : Completion :=
  { tag := tag, status := .ok, beats := List.replicate beats (Vector.replicate 16 0) }

def failed (tag : BitVec 7) : Completion := { tag := tag, status := .error, beats := [] }

/-- Tag 95 names a piece that does not exist; tag 96 names no entry. -/
theorem test_witness_StrayCompletion :
    State.reset.resetn = true
      ∧ (∀ (r : PieceRef) (pc : Piece), 2 * r.entry.val + r.second.toNat = (done 95 0).tag.toNat →
          (State.reset.entry r.entry).piece r.second = some pc → pc.status ≠ .outstanding)
      ∧ ∀ (r : PieceRef) (pc : Piece), 2 * r.entry.val + r.second.toNat = (done 96 0).tag.toNat →
          (State.reset.entry r.entry).piece r.second = some pc → pc.status ≠ .outstanding := by
  have h : ∀ (b : Bool) (e : EntryId), (State.reset.entry e).piece b = none := by decide +kernel
  refine ⟨rfl, ?_, ?_⟩
  · intro r pc _ e
    rw [h] at e
    cases e
  · intro r pc _ e
    rw [h] at e
    cases e

def sentPiece (length : Nat) : Piece :=
  { addr := 0x100000, length := length, data := [], status := .outstanding, readData := [] }

/-- Entry 0, on port 0, has its one piece outstanding. -/
def issued (k : Access) (target : Option Target) (s : State) : State :=
  (s.modEntry 0 fun _ =>
      { Entry.blank with
        state := .issued, kind := k, length := 2, target := target, pieces := [sentPiece 2],
        disposition := if target = none then .pass else .aperture }).modPort 0 fun pt => { pt with order := [0] }

/-- A PASS READ of two pieces, the first of which has completed with this status. -/
def halfDone (first : PieceStatus) : State :=
  (issued .read none State.reset).modEntry 0 fun en =>
    { en with pieces := [{ sentPiece 1 with status := first }, sentPiece 1] }

/-- A STOPPING stream whose last RETIRING page, 1, waits for the READ of entry 0. -/
def lastRead : State :=
  (inFlight .read 1 (ringed.modPage 1 fun pg => { pg with stage := .retiring, readCount := 1 })).modStream 0 fun st =>
    { st with state := .stopping }

/-- The last piece of a two-piece READ, beside an OK and beside a failed one; the READ that ends a stop. -/
theorem test_witness_OnePieceCompletion :
    ((Safe (halfDone .ok) ∧ FramesRecent (halfDone .ok) ∧ FramesInOrder (halfDone .ok))
      ∧ (halfDone .ok).resetn = true ∧ (done 1 1).tag.toNat = 2 * (0 : EntryId).val + [{ sentPiece 1 with status := .ok }].length
      ∧ ((halfDone .ok).entry 0).state = .issued
      ∧ ((halfDone .ok).entry 0).pieces = [{ sentPiece 1 with status := .ok }] ++ sentPiece 1 :: []
      ∧ CompletesOk (done 1 1) .read (sentPiece 1).length ∧ ¬ CompletesOk (failed 1) .read (sentPiece 1).length
      ∧ ¬ CompletesOk (done 1 0) .read (sentPiece 1).length)
      ∧ ((Safe (halfDone .error) ∧ FramesRecent (halfDone .error) ∧ FramesInOrder (halfDone .error))
        ∧ ((halfDone .error).entry 0).pieces = [{ sentPiece 1 with status := .error }] ++ sentPiece 1 :: [])
      ∧ (Safe lastRead ∧ FramesRecent lastRead ∧ FramesInOrder lastRead) ∧ (lastRead.stream 0).state = .stopping
      ∧ (lastRead.entry 0).target = some ⟨0, .producer, 1⟩
      ∧ ((after (.downstreamCompletion (done 0 1)) lastRead).stream 0).state = .off := by
  refine ⟨⟨safe_of_test (by decide +kernel), ?_⟩, ⟨safe_of_test (by decide +kernel), by decide +kernel⟩,
    safe_of_test (by decide +kernel), by decide +kernel⟩
  unfold CompletesOk
  decide +kernel

theorem test_halfDone_mergesTheData :
    ((after (.downstreamCompletion (done 1 1)) (halfDone .ok)).entry 0).prepared =
        some { status := .done, reason := none, data := [Vector.replicate 16 0] }
      ∧ ((after (.downstreamCompletion (done 1 1)) (halfDone .error)).entry 0).prepared =
        some { status := .fault, reason := none, data := [] } := by decide +kernel

/-- Entry 0 has its second piece outstanding and its first still queued, or the other way round, directed to page 0. -/
def halved (first second : PieceStatus) (k : Access) (target : Option Target) (s : State) : State :=
  (issued k target s).modEntry 0 fun en =>
    { en with pieces := [{ sentPiece 1 with status := first }, { sentPiece 2 with status := second }] }

/-- An ORPHANED entry with both its pieces outstanding. -/
def halvedOrphan : State :=
  { (halved .outstanding .outstanding .read none State.reset).modEntry 0 fun en => { en with state := .orphaned } with
    datapath := .quiescing }

theorem test_witness_CompletionBesideAnotherPiece :
    ((halved .queued .outstanding .read none State.reset).resetn = true
      ∧ (done 1 2).tag.toNat = 2 * (0 : EntryId).val + true.toNat
      ∧ ((halved .queued .outstanding .read none State.reset).entry 0).piece true = some (sentPiece 2)
      ∧ ((halved .queued .outstanding .read none State.reset).entry 0).piece (!true) =
          some { sentPiece 1 with status := .queued }
      ∧ QuiesceLaw (halved .queued .outstanding .read none State.reset)
      ∧ CompletesOk (done 1 2) .read (sentPiece 2).length ∧ ¬ CompletesOk (done 1 1) .read (sentPiece 2).length)
      ∧ (QuiesceLaw halvedOrphan ∧ (halvedOrphan.entry 0).piece false = some (sentPiece 1)
        ∧ (halvedOrphan.entry 0).piece (!false) = some (sentPiece 2) ∧ (halvedOrphan.entry 0).state = .orphaned)
      ∧ (failed 0).tag.toNat = 2 * (0 : EntryId).val + false.toNat
      ∧ ((halved .outstanding .outstanding .write (some ⟨0, .producer, 0⟩) busy).entry 0).piece false =
          some (sentPiece 1)
      ∧ ((halved .outstanding .outstanding .write (some ⟨0, .producer, 0⟩) busy).entry 0).piece (!false) =
          some (sentPiece 2)
      ∧ ((halved .outstanding .outstanding .write (some ⟨0, .producer, 0⟩) busy).page 0).stage = .filling := by
  unfold QuiesceLaw CompletesOk
  decide +kernel

/-- Entry 0 after a datapath reset: its only piece is outstanding, and page 0 waits for it in RETIRING. -/
def quiescing (state : EntryState) (prepared : Option Response) : State :=
  { (issued .write (some ⟨0, .producer, 0⟩) (ringed.modPage 0 fun pg =>
        { pg with stage := .retiring, writeCount := 1 })).modEntry 0 fun en =>
      { en with state := state, prepared := prepared } with
    datapath := .quiescing }

theorem test_witness_CompletionAfterADatapathReset :
    ((quiescing .orphaned none).resetn = true ∧ ((quiescing .orphaned none).entry 0).pieces = [sentPiece 2]
      ∧ (quiescing .orphaned none).datapath = .quiescing ∧ ((quiescing .orphaned none).entry 0).state = .orphaned
      ∧ ((quiescing .orphaned none).entry 0).target = some ⟨0, .producer, 0⟩
      ∧ ((quiescing .orphaned none).page 0).stage = .retiring ∧ ((quiescing .orphaned none).page 0).holdA = false
      ∧ ((quiescing .orphaned none).page 0).holdB = false ∧ ((quiescing .orphaned none).page 0).owner = some 0
      ∧ ((quiescing .orphaned none).stream 0).state = .off
      ∧ ∀ d, d ≠ 0 → ((quiescing .orphaned none).entry d).holdsQuiesce = false)
      ∧ ((quiescing .doneWaiting (some refusedReset)).entry 0).state = .doneWaiting
      ∧ ((quiescing .doneWaiting (some refusedReset)).entry 0).prepared =
          some { status := .refused, reason := some .reset, data := [] }
      ∧ ∃ d, d ≠ 0 ∧ (((quiescing .orphaned none).modEntry 1 fun en =>
          { en with state := .orphaned, pieces := [sentPiece 1] }).entry d).holdsQuiesce = true := by decide +kernel

/-- The same with two pieces, the other of which the reset removed or which completed before. -/
theorem test_witness_CompletionAfterADatapathReset_two :
    (([sentPiece 2] ++ [{ sentPiece 1 with status := .removed }] : List Piece) = [] ++ sentPiece 2 :: [{ sentPiece 1 with status := .removed }])
      ∧ (1 : BitVec 7).toNat = 2 * (0 : EntryId).val + [{ sentPiece 1 with status := .ok }].length
      ∧ (0 : BitVec 7).toNat = 2 * (0 : EntryId).val + ([] : List Piece).length
      ∧ ∀ q ∈ [{ sentPiece 1 with status := PieceStatus.removed }, { sentPiece 1 with status := .ok }],
          q.status ≠ .queued ∧ q.status ≠ .outstanding := by decide

def draining : State :=
  issued .write (some ⟨0, .producer, 0⟩)
    ((started.modPage 0 fun pg => { pg with stage := .closing, frame := some 0, writeCount := 1 }).modStream 0 fun st =>
      { st with fillPage := some 1, nextFrame := 1 }) |>.modPage 1 fun pg => { pg with stage := .filling }

theorem test_witness_LastWriteSealsTheFrame :
    draining.resetn = true ∧ (done 0 0).tag.toNat = 2 * (0 : EntryId).val ∧ (draining.entry 0).state = .issued
      ∧ (draining.entry 0).kind = .write ∧ (draining.entry 0).pieces = [sentPiece 2]
      ∧ (sentPiece 2).status = .outstanding ∧ (draining.entry 0).target = some ⟨0, .producer, 0⟩
      ∧ (draining.page 0).owner = some 0 ∧ (draining.page 0).stage = .closing ∧ (draining.page 0).writeCount = 1
      ∧ (draining.page 0).damaged = false ∧ 0 ∈ (draining.stream 0).ring
      ∧ (∀ q' ∈ (draining.stream 0).ring, q' ≠ 0 →
          (draining.page q').stage ≠ .closing ∧ (draining.page q').stage ≠ .sealed)
      ∧ (draining.stream 0).ready = [] ∧ QuiesceLaw draining ∧ (done 0 0).status = .ok
      ∧ (failed 0).status = .error := by
  unfold QuiesceLaw
  decide +kernel

/-- As draining, with a newer frame that waits in SEALED on page 2. -/
def queuedBehind : State :=
  (draining.modPage 2 fun pg => { pg with stage := .sealed, frame := some 1 }).modStream 0 fun st => { st with nextFrame := 2 }

/-- The general clause: both frames are published, the older one first, and it then retires. -/
theorem test_witness_LastWriteSealsTheFrame_general :
    (Safe queuedBehind ∧ FramesRecent queuedBehind ∧ FramesInOrder queuedBehind)
      ∧ (queuedBehind.page 0).owner = some 0 ∧ (queuedBehind.page 0).stage = .closing
      ∧ (queuedBehind.page 0).writeCount = 1
      ∧ ((after (.downstreamCompletion (done 0 0)) queuedBehind).stream 0).ready = [2]
      ∧ ((after (.downstreamCompletion (done 0 0)) queuedBehind).stream 0).published = 2
      ∧ ((after (.downstreamCompletion (done 0 0)) queuedBehind).page 0).stage = .free :=
  ⟨safe_of_test (by decide +kernel), by decide +kernel⟩

def answered : Response := { status := .done, reason := none, data := [] }

/-- Entry 0 is DONE-WAITING and presented on port 0; in `cut` a piece of it is still outstanding. -/
def presented : State :=
  (State.reset.modEntry 0 fun _ => { Entry.blank with state := .doneWaiting, prepared := some answered }).modPort 0
    fun pt => { pt with order := [0], presented := some 0 }

def cut : State := presented.modEntry 0 fun en => { en with prepared := some refusedReset, pieces := [sentPiece 1] }

/-- Entry 0 is the last undelivered REFUSED RESET; in `cutQuiescing` one of its pieces is still outstanding. -/
def lastRefused : State :=
  { presented.modEntry 0 fun en => { en with prepared := some refusedReset } with datapath := .quiescing }

def cutQuiescing : State := { cut with datapath := .quiescing }

theorem test_witness_DeliveryEndsTheEntry :
    (State.reset.resetn = true ∧ QuiesceLaw State.reset ∧ (State.reset.port 0).presented = none)
      ∧ (presented.resetn = true ∧ QuiesceLaw presented ∧ (presented.port 0).presented = some 0
        ∧ (presented.entry 0).prepared = some answered ∧ (presented.entry 0).port = 0
        ∧ (∀ pc ∈ (presented.entry 0).pieces, pc.status ≠ .outstanding) ∧ presented.datapath = .normal)
      ∧ (QuiesceLaw lastRefused ∧ (lastRefused.port 0).presented = some 0 ∧ lastRefused.datapath = .quiescing
        ∧ ∀ d, d ≠ 0 → (lastRefused.entry d).holdsQuiesce = false)
      ∧ QuiesceLaw cutQuiescing ∧ (cutQuiescing.port 0).presented = some 0
      ∧ (cutQuiescing.entry 0).prepared = some refusedReset ∧ (cutQuiescing.entry 0).port = 0
      ∧ ∃ pc ∈ (cutQuiescing.entry 0).pieces, pc.status = .outstanding := by
  unfold QuiesceLaw
  decide +kernel

def unpresented : State := presented.modPort 0 fun pt => { pt with presented := none }

theorem test_witness_PortPresentsTheOldestDeliverable :
    (presented.port 0).presented ≠ none ∧ (unpresented.port 0).presented = none
      ∧ ((present 0 unpresented).port 0).presented = some 0 := by decide +kernel

/-! ## Witnesses: laws -/

/-- A safe state in which a boundary event is waiting. -/
theorem live_waiting_safe : Safe (waiting (.boundaryEvent 0) live) := live_safe

theorem test_witness_SafeKept :
    (Safe (waiting (.boundaryEvent 0) live) ∧ FramesRecent (waiting (.boundaryEvent 0) live)
      ∧ FramesInOrder (waiting (.boundaryEvent 0) live)) ∧ ∃ t, step (waiting (.boundaryEvent 0) live) = .next t :=
  ⟨live_good, _, rfl⟩

theorem test_witness_EventQueueLawKept :
    EventQueueLaw (waiting (.popEvents 4 noTail) full) ∧ ∃ t, step (waiting (.popEvents 4 noTail) full) = .next t := by
  refine ⟨?_, _, rfl⟩
  unfold EventQueueLaw
  decide +kernel

theorem test_witness_ArbiterLawKept :
    ArbiterLaw (waiting (.indication calm) (round 1 0 1 0 1))
      ∧ ∃ t, step (waiting (.indication calm) (round 1 0 1 0 1)) = .next t := by
  refine ⟨?_, _, rfl⟩
  unfold ArbiterLaw
  decide +kernel

theorem test_witness_RingLawKept :
    RingLaw (waiting (.boundaryEvent 0) live) ∧ ∃ t, step (waiting (.boundaryEvent 0) live) = .next t :=
  ⟨live_waiting_safe.2.2.2.2.2.1.1, _, rfl⟩

theorem test_witness_RangesLawKept :
    RangesLaw (waiting (.unassignPage 0 noTail) ringed)
      ∧ ∃ t, step (waiting (.unassignPage 0 noTail) ringed) = .next t := ⟨ringed_ranges, _, rfl⟩

theorem test_witness_GeometryLawKept :
    RingLaw (waiting (.boundaryEvent 0) live) ∧ GeometryLaw (waiting (.boundaryEvent 0) live)
      ∧ ∃ t, step (waiting (.boundaryEvent 0) live) = .next t :=
  ⟨live_waiting_safe.2.2.2.2.2.1.1, live_waiting_safe.2.2.2.2.1, _, rfl⟩

theorem presented_table : TableLaw presented := table_of (by decide +kernel)

theorem test_witness_OrderLawKept :
    TableLaw (waiting (.delivery 0) presented) ∧ OrderLaw (waiting (.delivery 0) presented)
      ∧ ∃ t, step (waiting (.delivery 0) presented) = .next t := by
  refine ⟨presented_table, ?_, _, rfl⟩
  unfold OrderLaw Deliverable
  decide +kernel

/-! ## A short run: from reset to a held page -/

theorem reachable_after {s : State} (h : Reachable s) (e : s.pending = []) (i : Instr) (w : i.wellFormed = true)
    (n : exec i s = .next (after i s)) : Reachable (after i s) := by
  refine Reachable.step _ _ (Reachable.arrive s i w h) ?_
  rw [e]
  have r : ({ s with pending := [] } : State) = s := by rw [← e]
  change exec i { s with pending := [] } = .next (after i s)
  rw [r, n]

def ringArgs : SetStreamArgs :=
  { stream := 0, base := 0x10000, lines := 4, lineLength := 256, stride := 256, transform := 0, producerTag := 0,
    takePolicy := 0, poolPolicy := 0, fill := 0 }

def run1 : State := after (.setStream ringArgs noTail) State.reset

def run2 : State := after (.setConsumer (slotArgs 0 1 0x20000 2 256 1 0) noTail) run1

def run3 : State := after (.assignPage { page := 0, stream := 0, base := 0x100000, size := 4096 } noTail) run2

def run4 : State := after (.assignPage { page := 1, stream := 0, base := 0x101000, size := 4096 } noTail) run3

def run5 : State := after (.startStream 0 noTail) run4

def run6 : State := after (.boundaryEvent 0) run5

def run7 : State := after (.takeEvent 0 .a) run6

theorem run1_reachable : Reachable run1 :=
  reachable_after Reachable.reset (by decide +kernel) (.setStream ringArgs noTail)
    (by decide) rfl

theorem run2_reachable : Reachable run2 :=
  reachable_after run1_reachable (by decide +kernel) (.setConsumer (slotArgs 0 1 0x20000 2 256 1 0) noTail)
    (by decide) rfl

theorem run3_reachable : Reachable run3 :=
  reachable_after run2_reachable (by decide +kernel) (.assignPage { page := 0, stream := 0, base := 0x100000, size := 4096 } noTail)
    (by decide) rfl

theorem run4_reachable : Reachable run4 :=
  reachable_after run3_reachable (by decide +kernel) (.assignPage { page := 1, stream := 0, base := 0x101000, size := 4096 } noTail)
    (by decide) rfl

theorem run5_reachable : Reachable run5 :=
  reachable_after run4_reachable (by decide +kernel) (.startStream 0 noTail)
    (by decide) rfl

theorem run6_reachable : Reachable run6 :=
  reachable_after run5_reachable (by decide +kernel) (.boundaryEvent 0)
    (by decide) rfl

theorem run7_reachable : Reachable run7 :=
  reachable_after run6_reachable (by decide +kernel) (.takeEvent 0 .a)
    (by decide) rfl

theorem test_witness_NoConsumerReadsAPageBeingWritten : Reachable run7 ∧ (run7.slot 0 .a).held = some 0 :=
  ⟨run7_reachable, by decide +kernel⟩

end Sys2Proof.Tests
end

/-! PROOFS. The configuration of streams, slots and pages, and that only a few events write it: every operation of the
rotation controller, the transaction table and the scheduler keeps it and starts no stream. -/

namespace Sys2Proof.Machine

/-! ## What configuration commands write and nothing else does -/

/-- The configuration of a slot (R3), with every other field blank. -/
def Slot.config (sl : Slot) : Slot :=
  { Slot.blank with
    enabled := sl.enabled, tag := sl.tag, base := sl.base, lines := sl.lines, lineLength := sl.lineLength,
    cropLine := sl.cropLine, cropByte := sl.cropByte, staleThreshold := sl.staleThreshold }

/-- The configuration and the ring of a stream (R1, R26), with every other field blank; of its state there is only whether
it is defined. -/
def Stream.config (st : Stream) : Stream :=
  { Stream.blank with
    state := if st.state = .undefined then .undefined else .off
    base := st.base, lines := st.lines, lineLength := st.lineLength, stride := st.stride, transform := st.transform,
    producerTag := st.producerTag, takePolicy := st.takePolicy, poolPolicy := st.poolPolicy, fill := st.fill,
    ring := st.ring, slotA := st.slotA.config, slotB := st.slotB.config }

/-- Owner, base and size of a page (R19), with every other field blank; of its stage there is only whether it is assigned. -/
def Page.config (pg : Page) : Page :=
  { Page.blank with
    stage := if pg.stage = .unassigned then .unassigned else .free
    owner := pg.owner, base := pg.base, size := pg.size }

/-- Configuration, rings, owners and ranges are as they were: no command has written one. -/
structure ConfigKept (s t : State) : Prop where
  streams : ∀ n : StreamId, (t.stream n).config = (s.stream n).config
  pages : ∀ p : PageId, (t.page p).config = (s.page p).config

/-- Configuration is as it was, and no stream has started: a RUNNING or STOPPING stream was one before. -/
structure NoStart (s t : State) : Prop extends ConfigKept s t where
  active : ∀ n : StreamId, (t.stream n).active = true → (s.stream n).active = true

theorem Stream.config_undefined {a b : Stream} (h : b.config = a.config) : b.state = .undefined ↔ a.state = .undefined := by
  have hs : b.config.state = a.config.state := congrArg Stream.state h
  simp only [Stream.config] at hs
  split at hs <;> split at hs <;> simp_all

theorem Stream.config_slot {a b : Stream} (h : b.config = a.config) (x : SlotId) : (b.slot x).config = (a.slot x).config := by
  cases x
  · exact congrArg Stream.slotA h
  · exact congrArg Stream.slotB h

theorem Page.config_unassigned {a b : Page} (h : b.config = a.config) : b.stage = .unassigned ↔ a.stage = .unassigned := by
  have hs : b.config.stage = a.config.stage := congrArg Page.stage h
  simp only [Page.config] at hs
  split at hs <;> split at hs <;> simp_all

theorem Page.config_range {a b : Page} (h : b.config = a.config) : b.range = a.range := by
  have hr : b.config.range = a.config.range := congrArg Page.range h
  exact hr

/-- A page that stays assigned keeps its configuration with its owner, base and size. -/
theorem Page.config_of_assigned {a b : Page} (ha : a.stage ≠ .unassigned) (hb : b.stage ≠ .unassigned)
    (ho : b.owner = a.owner) (hs : b.base = a.base) (hz : b.size = a.size) : b.config = a.config := by
  simp [Page.config, ha, hb, ho, hs, hz]

theorem Page.released_config {pg : Page} (h : pg.stage ≠ .unassigned) : pg.released.config = pg.config := by
  refine Page.config_of_assigned h ?_ rfl rfl rfl
  simp only [Page.released]
  split <;> simp

theorem Page.setHolder_config (pg : Page) (x : SlotId) (v : Bool) : (pg.setHolder x v).config = pg.config := by
  cases x <;> rfl

theorem ConfigKept.trans {s t u : State} (h : ConfigKept s t) (k : ConfigKept t u) : ConfigKept s u :=
  ⟨fun n => (k.streams n).trans (h.streams n), fun p => (k.pages p).trans (h.pages p)⟩

theorem NoStart.refl (s : State) : NoStart s s := ⟨⟨fun _ => rfl, fun _ => rfl⟩, fun _ h => h⟩

theorem NoStart.trans {s t u : State} (h : NoStart s t) (k : NoStart t u) : NoStart s u :=
  ⟨h.toConfigKept.trans k.toConfigKept, fun n hn => h.active n (k.active n hn)⟩

/-- Whatever leaves the tables of streams and pages alone. -/
theorem NoStart.of_tables {s t : State} (hs : t.streams = s.streams) (hp : t.pages = s.pages) : NoStart s t := by
  have h1 : ∀ n, t.stream n = s.stream n := fun n => by simp [State.stream, hs]
  have h2 : ∀ p, t.page p = s.page p := fun p => by simp [State.page, hp]
  exact ⟨⟨fun n => by rw [h1], fun p => by rw [h2]⟩, fun n h => by rwa [h1] at h⟩

theorem NoStart.modStream {s u : State} (h : NoStart s u) {n : StreamId} {f : Stream → Stream}
    (hc : (f (u.stream n)).config = (u.stream n).config)
    (ha : (f (u.stream n)).active = true → (u.stream n).active = true) : NoStart s (u.modStream n f) := by
  refine h.trans ⟨⟨fun m => ?_, fun _ => rfl⟩, fun m h => ?_⟩
  · by_cases hm : m = n
    · subst hm
      simpa using hc
    · simp [hm]
  · by_cases hm : m = n
    · subst hm
      exact ha (by simpa using h)
    · simpa [hm] using h

/-- Behind it, a change of run fields, counters or flags of a stream that leaves its state alone. -/
theorem NoStart.modRun {s u : State} (h : NoStart s u) {n : StreamId} {f : Stream → Stream}
    (hc : ∀ st, (f st).config = st.config) (hs : ∀ st, (f st).state = st.state) : NoStart s (u.modStream n f) :=
  h.modStream (hc _) (by simp [Stream.active, hs])

theorem NoStart.modPage {s u : State} (h : NoStart s u) {p : PageId} {f : Page → Page}
    (hc : (f (u.page p)).config = (u.page p).config) : NoStart s (u.modPage p f) := by
  refine h.trans ⟨⟨fun _ => rfl, fun q => ?_⟩, fun _ h => h⟩
  by_cases hq : q = p
  · subst hq
    simpa using hc
  · simp [hq]

theorem NoStart.modSlot {s u : State} (h : NoStart s u) {n : StreamId} {x : SlotId} {f : Slot → Slot}
    (hc : ∀ sl, (f sl).config = sl.config) : NoStart s (u.modSlot n x f) := by
  refine h.modRun (fun st => ?_) (fun st => by simp)
  cases x
  · exact congrArg (fun c => { st.config with slotA := c }) (hc st.slotA)
  · exact congrArg (fun c => { st.config with slotB := c }) (hc st.slotB)

theorem NoStart.raise {s u : State} (h : NoStart s u) (r : EventRecord) : NoStart s (u.raise r) :=
  h.trans (NoStart.of_tables (by simp) (by simp))

theorem NoStart.raise_modRun {s u : State} (h : NoStart s u) {n : StreamId} {f : Stream → Stream} {r : EventRecord}
    (hc : ∀ st, (f st).config = st.config) (hs : ∀ st, (f st).state = st.state) :
    NoStart s ((u.modStream n f).raise r) := (h.modRun hc hs).raise r

/-! ### The rotation controller -/

theorem release_noStart {s : State} {p : PageId} (h : (s.page p).stage ≠ .unassigned) : NoStart s (release p s) := by
  unfold release
  cases (s.page p).owner with
  | none => exact NoStart.modPage (NoStart.refl s) (Page.released_config h)
  | some n =>
    have h1 : NoStart s (s.modStream n fun st => { st with ready := st.ready.filter (· != p) }) :=
      NoStart.modRun (NoStart.refl s) (fun _ => rfl) (fun _ => rfl)
    exact h1.modPage (Page.released_config h)

theorem retires_published {s : State} {n : StreamId} {p : PageId} (h : retires s n p = true) :
    (s.page p).stage = .published := by
  simp only [retires, Bool.and_eq_true, beq_iff_eq] at h
  obtain ⟨⟨⟨hp, _⟩, _⟩, _⟩ := h
  exact hp

theorem retireTest_noStart (n : StreamId) (s : State) (p : PageId) : NoStart s (retireTest n s p) := by
  rcases retireTest_cases n s p with ⟨_, e⟩ | ⟨h, e⟩ <;> rw [e]
  · exact NoStart.refl s
  · exact release_noStart (by simp [retires_published h])

theorem retireFold_noStart (n : StreamId) (l : List PageId) (s : State) : NoStart s (l.foldl (retireTest n) s) := by
  induction l generalizing s with
  | nil => exact NoStart.refl s
  | cons p rest ih => exact (retireTest_noStart n s p).trans (ih _)

theorem retireAll_noStart (n : StreamId) (s : State) : NoStart s (retireAll n s) := retireFold_noStart n _ s

theorem publish_noStart {n : StreamId} {p : PageId} {s : State} (h : (s.page p).stage ≠ .unassigned) :
    NoStart s (publish n p s) := by
  refine NoStart.trans ?_ (retireAll_noStart n _)
  exact NoStart.modRun (NoStart.modPage (NoStart.refl s) (Page.config_of_assigned h (by simp) rfl rfl rfl))
    (fun _ => rfl) (fun _ => rfl)

theorem discard_noStart {n : StreamId} {p : PageId} {s : State} (h : (s.page p).stage ≠ .unassigned) :
    NoStart s (discard n p s) := by
  refine NoStart.trans ?_ (release_noStart (by simpa using h))
  exact NoStart.raise_modRun (NoStart.refl s) (fun _ => rfl) (fun _ => rfl)

theorem chain_noStart (fuel : Nat) (n : StreamId) (s : State) : NoStart s (chain fuel n s) := by
  induction fuel generalizing s with
  | zero => exact NoStart.refl s
  | succ fuel ih =>
    unfold chain
    cases oldestPending s n with
    | none => exact NoStart.refl s
    | some p =>
      dsimp only
      split
      · next hs =>
        have ha : (s.page p).stage ≠ .unassigned := by simp_all
        split
        · exact (discard_noStart ha).trans (ih _)
        · exact (publish_noStart ha).trans (ih _)
      · exact NoStart.refl s

theorem sealPage_noStart {n : StreamId} {p : PageId} {s : State} (h : (s.page p).stage ≠ .unassigned) :
    NoStart s (sealPage n p s) :=
  NoStart.trans (NoStart.modPage (NoStart.refl s) (Page.config_of_assigned h (by simp) rfl rfl rfl)) (chain_noStart _ n _)

theorem endStop_noStart (n : StreamId) (s : State) : NoStart s (endStop n s) := by
  unfold endStop
  split
  · next h =>
    have hs : (s.stream n).state = .stopping := by simp_all
    exact NoStart.raise (NoStart.modStream (NoStart.refl s) (by simp [Stream.config, hs]) (by simp [Stream.active])) _
  · exact NoStart.refl s

theorem examinePage_noStart (k : Access) (p : PageId) (s : State) : NoStart s (examinePage k p s) := by
  unfold examinePage
  dsimp only
  cases hs : (s.page p).stage <;> dsimp only
  case closing =>
    split
    · cases (s.page p).owner with
      | none => exact NoStart.refl s
      | some n => exact sealPage_noStart (by simp [hs])
    · exact NoStart.refl s
  case retiring =>
    have hf : NoStart s (s.modPage p fun q => { q with stage := .free }) :=
      NoStart.modPage (NoStart.refl s) (Page.config_of_assigned (by simp [hs]) (by simp) rfl rfl rfl)
    split
    · cases (s.page p).owner with
      | none => exact hf
      | some n => exact hf.trans (endStop_noStart n _)
    · exact NoStart.refl s
  all_goals exact NoStart.refl s

theorem lowerCount_noStart (k : Access) (p : PageId) (s : State) : NoStart s (lowerCount k p s) :=
  NoStart.trans (NoStart.modPage (NoStart.refl s) (by cases k <;> rfl)) (examinePage_noStart k p _)

theorem makeFill_noStart {n : StreamId} {p : PageId} {s : State} (h : (s.page p).stage ≠ .unassigned) :
    NoStart s (makeFill n p s) :=
  NoStart.modRun (NoStart.modPage (NoStart.refl s) (Page.config_of_assigned h (by simp) rfl rfl rfl))
    (fun _ => rfl) (fun _ => rfl)

theorem dropFrame_noStart (n : StreamId) (p : PageId) (s : State) : NoStart s (dropFrame n p s) :=
  NoStart.raise_modRun (NoStart.refl s) (fun _ => rfl) (fun _ => rfl)

theorem firstFree_stage {s : State} {n : StreamId} {p : PageId} (h : firstFree s n = some p) : (s.page p).stage = .free := by
  simpa using List.find?_some h

theorem recycleCandidate_stage {s : State} {n : StreamId} {p : PageId} (h : recycleCandidate s n = some p) :
    (s.page p).stage = .published := by
  have hc := List.find?_some h
  simp only [Bool.and_eq_true, beq_iff_eq] at hc
  obtain ⟨⟨hp, _⟩, _⟩ := hc
  exact hp

theorem seekFill_noStart {n : StreamId} {s t : State} {p : PageId} (h : seekFill n s = some (p, t)) : NoStart s t := by
  rcases seekFill_cases n s with ⟨q, hq, e⟩ | ⟨q, _, _, hq, e⟩ | ⟨_, e, _⟩ <;> rw [e] at h <;> cases h
  · exact makeFill_noStart (by simp [firstFree_stage hq])
  · exact (dropFrame_noStart n p s).trans (makeFill_noStart (by simp [dropFrame, recycleCandidate_stage hq]))

theorem closeFill_noStart (n : StreamId) (f : Word32) (s : State) : NoStart s (closeFill n f s) := by
  unfold closeFill
  cases (s.stream n).fillPage with
  | none => exact NoStart.refl s
  | some p =>
    dsimp only
    split
    · next hs =>
      have ha : (s.page p).stage ≠ .unassigned := by simp_all
      have h1 : NoStart s ((s.modPage p fun pg => { pg with stage := .closing, frame := some f }).modStream n
          fun st => { st with fillPage := none }) :=
        NoStart.modRun (NoStart.modPage (NoStart.refl s) (Page.config_of_assigned ha (by simp) rfl rfl rfl))
          (fun _ => rfl) (fun _ => rfl)
      split
      · exact h1.trans (sealPage_noStart (by simp))
      · exact h1
    · exact NoStart.refl s

theorem starve_noStart (n : StreamId) (s : State) : NoStart s (starve n s) :=
  NoStart.raise_modRun (NoStart.refl s) (fun _ => rfl) (fun _ => rfl)

theorem closeFrame_noStart (n : StreamId) (f : Word32) (s : State) : NoStart s (closeFrame n f s) := by
  unfold closeFrame
  dsimp only
  cases h : seekFill n (closeFill n f s) with
  | none => exact (closeFill_noStart n f s).trans (starve_noStart n _)
  | some r => exact (closeFill_noStart n f s).trans (seekFill_noStart h)

theorem sinkFrame_noStart (n : StreamId) (s : State) : NoStart s (sinkFrame n s) := by
  have hc : NoStart s (countSunk n s) := NoStart.modRun (NoStart.refl s) (fun _ => rfl) (fun _ => rfl)
  unfold sinkFrame
  dsimp only
  cases h : seekFill n (countSunk n s) with
  | none => exact hc
  | some r =>
    have h1 := hc.trans (seekFill_noStart h)
    exact NoStart.raise_modRun h1 (fun _ => rfl) (fun _ => rfl)

theorem takenBoundary_noStart (n : StreamId) (s : State) : NoStart s (takenBoundary n s) := by
  have hb : NoStart s (beginClosing n s) := NoStart.modRun (NoStart.refl s) (fun _ => rfl) (fun _ => rfl)
  unfold takenBoundary closingBoundary
  dsimp only
  split
  · exact NoStart.modRun (NoStart.refl s) (fun _ => rfl) (fun _ => rfl)
  · split
    · exact hb.trans (sinkFrame_noStart n _)
    · split
      · exact NoStart.modRun hb (fun _ => rfl) (fun _ => rfl)
      · exact hb.trans (closeFrame_noStart n _ _)

theorem retireAfterTake_noStart (n : StreamId) (old : Option PageId) (s : State) : NoStart s (retireAfterTake n old s) := by
  have h1 : NoStart s (match old with | some o => retireTest n s o | none => s) := by
    cases old with
    | none => exact NoStart.refl s
    | some o => exact retireTest_noStart n s o
  unfold retireAfterTake
  dsimp only
  split
  · exact h1
  · exact h1.trans (retireAll_noStart n _)

theorem successfulTake_noStart (n : StreamId) (x : SlotId) (c : PageId) (s : State) :
    NoStart s (successfulTake n x c s) := by
  have h1 : NoStart s (leaveHeld n x s) := by
    unfold leaveHeld
    cases (s.slot n x).held with
    | none => exact NoStart.refl s
    | some o => exact NoStart.modPage (NoStart.refl s) (Page.setHolder_config _ _ _)
  refine NoStart.trans ?_ (retireAfterTake_noStart n _ _)
  exact NoStart.modSlot (NoStart.modPage h1 (Page.setHolder_config _ _ _)) fun _ => rfl

theorem repeatTake_noStart (n : StreamId) (x : SlotId) (s : State) : NoStart s (repeatTake n x s) := by
  have h1 : NoStart s (s.modSlot n x fun sl =>
      { sl with repeats := sl.repeats + 1, repeatsInRow := min (sl.repeatsInRow + 1) 255 }) :=
    NoStart.modSlot (NoStart.refl s) fun _ => rfl
  unfold repeatTake staleTest
  split
  · exact NoStart.modSlot (NoStart.raise h1 _) fun _ => rfl
  · exact h1

/-! ### The transaction table and the scheduler -/

theorem present_noStart (p : PortId) (s : State) : NoStart s (present p s) :=
  NoStart.of_tables (present_streams p s) (present_pages p s)

theorem endQuiesce_noStart (s : State) : NoStart s (endQuiesce s) := by
  unfold endQuiesce
  split
  · exact NoStart.of_tables (by simp) (by simp)
  · exact NoStart.refl s

theorem sendPiece_noStart (r : PieceRef) (s : State) : NoStart s (sendPiece r s) := by
  unfold sendPiece
  split
  · exact NoStart.of_tables rfl rfl
  · exact NoStart.refl s

theorem grantPort_noStart (p : PortId) (s : State) : NoStart s (grantPort p s) := by
  unfold grantPort
  cases (s.port p).queue with
  | nil => exact NoStart.refl s
  | cons r rest =>
    refine NoStart.trans ?_ (sendPiece_noStart r _)
    exact NoStart.of_tables rfl rfl

theorem grant_noStart (s : State) : NoStart s (grant s) := by
  have hr : NoStart s (reloadCredits s) := NoStart.of_tables rfl rfl
  rcases grant_cases s with ⟨p, _, h⟩ | ⟨_, p, _, h⟩ | ⟨_, _, h⟩ <;> rw [h]
  · exact grantPort_noStart p s
  · exact hr.trans (grantPort_noStart p _)
  · exact hr

theorem grantLoop_noStart (fuel : Nat) (s : State) : NoStart s (grantLoop fuel s) := by
  induction fuel generalizing s with
  | zero => exact NoStart.refl s
  | succ fuel ih =>
    unfold grantLoop
    split
    · exact (grant_noStart s).trans (ih _)
    · exact NoStart.refl s

theorem runGrants_noStart (s : State) : NoStart s (runGrants s) := grantLoop_noStart _ s

theorem acceptInto_noStart (e : EntryId) (p : PortId) (r : Request) (d : Decision) (s : State) :
    NoStart s (acceptInto e p r d s) := by
  have h1 : NoStart s ((s.modEntry e fun _ => newEntry p r d).modPort p fun po => po.acceptEntry e d) :=
    NoStart.of_tables rfl rfl
  have h2 : ∀ u : State, NoStart u (raiseTarget r.kind d.target u) := by
    intro u
    unfold raiseTarget
    cases d.target with
    | none => exact NoStart.refl u
    | some t => exact NoStart.modPage (NoStart.refl u) (by cases r.kind <;> rfl)
  have h3 : ∀ u : State, NoStart u (raiseReport d.report u) := by
    intro u
    unfold raiseReport
    cases d.report with
    | none => exact NoStart.refl u
    | some rec => exact NoStart.raise (NoStart.refl u) rec
  exact (h1.trans (h2 _)).trans (h3 _)

theorem acceptHead_noStart (p : PortId) (r : Request) (s : State) : NoStart s (acceptHead p r s) := by
  have hw : ∀ w, NoStart s (setWaiting p w s) := fun _ => NoStart.of_tables rfl rfl
  unfold acceptHead
  cases acceptEntry s p r with
  | none => exact hw _
  | some e =>
    exact (((hw none).trans (acceptInto_noStart e p r _ _)).trans (present_noStart p _)).trans (runGrants_noStart _)

theorem testLoop_noStart (fuel : Nat) (s : State) : NoStart s (testLoop fuel s) := by
  induction fuel generalizing s with
  | zero => exact NoStart.refl s
  | succ fuel ih =>
    unfold testLoop
    cases (List.finRange 4).find? (waitingFits s) with
    | none => exact NoStart.refl s
    | some p =>
      refine NoStart.trans ?_ (ih _)
      unfold testPort
      cases s.links.waiting.get p with
      | none => exact NoStart.refl s
      | some r => exact acceptHead_noStart p r s

theorem testWaiting_noStart (s : State) : NoStart s (testWaiting s) := testLoop_noStart 4 s

theorem freeEntry_noStart (e : EntryId) (s : State) : NoStart s (freeEntry e s) := NoStart.of_tables rfl rfl

theorem settleEntry_noStart (e : EntryId) (s : State) : NoStart s (settleEntry e s) := by
  have hl : ∀ (en : Entry) (u : State), NoStart u (lowerTarget en u) := by
    intro en u
    unfold lowerTarget
    cases en.target with
    | none => exact NoStart.refl u
    | some t => exact lowerCount_noStart en.kind t.page u
  unfold settleEntry
  dsimp only
  cases (s.entry e).state <;> dsimp only
  case issued =>
    refine NoStart.trans ?_ (hl _ _)
    exact NoStart.of_tables rfl rfl
  case orphaned => exact (freeEntry_noStart e s).trans (hl _ _)
  case doneWaiting => exact hl _ s
  all_goals exact NoStart.refl s

theorem Page.markDamaged_config (pg : Page) : pg.markDamaged.config = pg.config := by
  unfold Page.markDamaged
  split <;> rfl

theorem failPiece_noStart (en : Entry) (pc : Piece) (s : State) : NoStart s (failPiece en pc s) := by
  have h : NoStart s ((s.modPort en.port fun po => { po with faults := po.faults + 1 }).raise (faultRecord en pc)) := by
    refine NoStart.raise ?_ _
    exact NoStart.of_tables rfl rfl
  unfold failPiece reportDamage
  split
  · exact NoStart.modPage h (Page.markDamaged_config _)
  · exact h

theorem completePiece_noStart (r : PieceRef) (pc : Piece) (c : Completion) (s : State) :
    NoStart s (completePiece r pc c s) := by
  have h1 : NoStart s (s.modEntry r.entry fun en => en.modPiece r.second fun pc => pc.complete en c) :=
    NoStart.of_tables rfl rfl
  have settle : ∀ u : State, NoStart s u →
      NoStart s (if (u.entry r.entry).inFlight then u else settleEntry r.entry u) := by
    intro u h
    split
    · exact h
    · exact h.trans (settleEntry_noStart _ u)
  unfold completePiece
  dsimp only
  refine NoStart.trans (NoStart.trans (settle _ ?_) (endQuiesce_noStart _)) (present_noStart _ _)
  cases checkedStatus (s.entry r.entry).kind pc.length c with
  | ok => exact h1
  | error => exact h1.trans (failPiece_noStart _ _ _)

theorem complete_noStart (c : Completion) (s : State) : NoStart s (complete c s) := by
  unfold complete
  cases outstandingPiece s c with
  | none => exact NoStart.of_tables rfl rfl
  | some x => exact (completePiece_noStart x.1 x.2 c s).trans (testWaiting_noStart _)

theorem deliver_noStart (p : PortId) (s : State) : NoStart s (deliver p s) := by
  have h1 : ∀ e, NoStart s (sendResponse p e s) := by
    intro e
    unfold sendResponse
    split
    · exact NoStart.of_tables rfl rfl
    · exact NoStart.refl s
  have h2 : ∀ (e : EntryId) (u : State), NoStart u (retireEntry e u) := by
    intro e u
    unfold retireEntry
    split
    · exact NoStart.of_tables rfl rfl
    · exact freeEntry_noStart e u
  have h3 : ∀ u : State, NoStart u (u.modPort p fun po => { po with presented := none }) :=
    fun u => NoStart.of_tables rfl rfl
  unfold deliver
  cases (s.port p).presented with
  | none => exact NoStart.refl s
  | some e =>
    exact (((((h1 e).trans (h2 e _)).trans (h3 _)).trans (endQuiesce_noStart _)).trans (present_noStart p _)).trans
      (testWaiting_noStart _)

theorem boundary_noStart (n : StreamId) (s : State) : NoStart s (boundary n s) := by
  unfold boundary
  split
  · exact (takenBoundary_noStart n s).trans (testWaiting_noStart _)
  · exact NoStart.refl s

theorem take_noStart (n : StreamId) (x : SlotId) (s : State) : NoStart s (take n x s) := by
  unfold take
  split
  · split
    · exact NoStart.modSlot (NoStart.refl s) fun _ => rfl
    · cases candidate s n x with
      | none => exact repeatTake_noStart n x s
      | some c => exact (successfulTake_noStart n x c s).trans (testWaiting_noStart _)
  · exact NoStart.refl s

end Sys2Proof.Machine

/-! PROOFS. Which events write configuration, and what each of the commands that do leaves. -/

namespace Sys2Proof.Machine

/-! ### Management commands that write no configuration -/

theorem shiftFrame_noStart (bytes : List Byte) (s : State) : NoStart s (shiftFrame bytes s) := NoStart.of_tables rfl rfl

theorem answerFrame_noStart (bytes : List Byte) (command : State → Answer) (s : State) :
    NoStart (command (shiftFrame bytes s)).state (answerFrame bytes command s) := NoStart.of_tables rfl rfl

/-- What the end of a frame leaves has the law that its command's state has, for a law that reads nothing of the response,
which the frame writes, and that a re-test keeps. -/
theorem frameEnd_keeps {L : State → Prop} (hL : ∀ u v, NoStart u v → L u → L v) {bytes : List Byte}
    {command : State → Answer} {s : State} (h : L s) (hc : L (command (shiftFrame bytes s)).state) :
    L (frameEnd bytes command s) := by
  unfold frameEnd
  split
  · exact hL _ _ (answerFrame_noStart bytes command s) hc
  · exact h

theorem steeringFrameEnd_keeps {L : State → Prop} (hL : ∀ u v, NoStart u v → L u → L v) {bytes : List Byte}
    {command : State → Answer} {s : State} (h : L s) (hc : L (command (shiftFrame bytes s)).state) :
    L (steeringFrameEnd bytes command s) := by
  have ha : L (answerFrame bytes command s) := hL _ _ (answerFrame_noStart bytes command s) hc
  unfold steeringFrameEnd
  split
  · split
    · exact hL _ _ (testWaiting_noStart _) ha
    · exact ha
  · exact h

theorem cmdFreeze_noStart (b t o : Byte) (s : State) : NoStart s (cmdFreeze b t o s).state := by
  unfold cmdFreeze
  split
  · next n target v _ _ _ =>
    split
    · exact NoStart.refl s
    · cases target with
      | producer =>
        show NoStart s (s.modStream n fun st => { st with freeze := v })
        exact NoStart.modRun (NoStart.refl s) (fun _ => rfl) (fun _ => rfl)
      | slot x =>
        show NoStart s (s.modSlot n x fun sl => { sl with freeze := v })
        exact NoStart.modSlot (NoStart.refl s) fun _ => rfl
  · exact NoStart.refl s

theorem cmdSetArbiter_noStart (w0 w1 w2 w3 : Byte) (s : State) : NoStart s (cmdSetArbiter w0 w1 w2 w3 s).state := by
  unfold cmdSetArbiter
  split
  · exact NoStart.of_tables rfl rfl
  · exact NoStart.refl s

theorem cmdSetEvents_noStart (w : Byte) (m : Word16) (s : State) : NoStart s (cmdSetEvents w m s).state := by
  unfold cmdSetEvents
  split
  · exact NoStart.of_tables rfl rfl
  · exact NoStart.refl s

theorem cmdPopEvents_noStart (k : Byte) (s : State) : NoStart s (cmdPopEvents k s).state := by
  unfold cmdPopEvents
  split
  · exact NoStart.of_tables rfl rfl
  · exact NoStart.refl s

theorem cmdReadStream_noStart (b : Byte) (s : State) : NoStart s (cmdReadStream b s).state := by
  unfold cmdReadStream
  split <;> exact NoStart.refl s

theorem cmdReadPage_noStart (b : Byte) (s : State) : NoStart s (cmdReadPage b s).state := by
  unfold cmdReadPage
  split <;> exact NoStart.refl s

theorem cmdReadCounters_noStart (g n x c : Byte) (s : State) : NoStart s (cmdReadCounters g n x c s).state := by
  have hc : ∀ g, NoStart s (clearGroup g s) := by
    intro g
    unfold clearGroup
    cases g with
    | stream n => exact NoStart.modRun (NoStart.refl s) (fun _ => rfl) (fun _ => rfl)
    | slot n x => exact NoStart.modSlot (NoStart.refl s) fun _ => rfl
    | port p => exact NoStart.of_tables rfl rfl
    | device => exact NoStart.of_tables rfl rfl
  unfold cmdReadCounters
  split
  · next g c _ _ =>
    cases c
    · exact NoStart.refl s
    · exact hc g
  · exact NoStart.refl s

theorem Stream.stopped_config {st : Stream} (h : st.state = .running) : st.stopped.config = st.config := by
  have e : st.stopped.config = { st.config with state := .off } := rfl
  rw [e]
  simp [Stream.config, h]

theorem stopRunning_noStart {n : StreamId} {s : State} (h : (s.stream n).state = .running) :
    NoStart s (stopRunning n s) := by
  refine NoStart.trans ?_ (endStop_noStart n _)
  have hp : NoStart s { s with pages := stopPages s (s.stream n).ring } := by
    refine ⟨⟨fun _ => rfl, fun p => ?_⟩, fun _ h => h⟩
    show ((stopPages s (s.stream n).ring).get p).config = _
    rw [stopPages, mapAll_get]
    split
    · next hc =>
      refine Page.released_config fun hu => ?_
      simp [Page.inCycle, hu] at hc
    · rfl
  exact NoStart.modStream hp (Stream.stopped_config h) fun _ => by
    show (s.stream n).active = true
    simp [Stream.active, h]

theorem cmdStopStream_noStart (b : Byte) (s : State) : NoStart s (cmdStopStream b s).state := by
  unfold cmdStopStream
  split
  · exact NoStart.refl s
  · split
    case h_4 h => exact stopRunning_noStart h
    all_goals exact NoStart.refl s

theorem Stream.afterReset_config (st : Stream) : st.afterReset.config = st.config := by
  cases h : st.state <;> simp [Stream.config, Stream.afterReset, Stream.active, Slot.config, h]

theorem Stream.afterReset_active (st : Stream) : st.afterReset.active = false := by
  cases h : st.state <;> simp [Stream.afterReset, Stream.active, h]

theorem Page.afterReset_config (pg : Page) (w r : Nat) : (pg.afterReset w r).config = pg.config := by
  unfold Page.afterReset
  dsimp only
  split
  · rfl
  · next h =>
    have hu : pg.stage ≠ .unassigned := by simp_all
    exact Page.released_config hu

theorem resetTables_noStart (s : State) : NoStart s (resetTables s) := by
  refine ⟨⟨fun n => ?_, fun p => ?_⟩, fun n h => ?_⟩
  · simp only [resetTables, State.stream, mapAll_get]
    exact Stream.afterReset_config _
  · simp only [resetTables, State.page, mapAll_get]
    exact Page.afterReset_config _ _ _
  · simp only [resetTables, State.stream, mapAll_get, Stream.afterReset_active] at h
    cases h

theorem cmdDatapathReset_noStart (b : Byte) (s : State) : NoStart s (cmdDatapathReset b s).state := by
  have hq : ∀ u : State, NoStart u (setQuiescing u) := by
    intro u
    unfold setQuiescing
    split
    · exact NoStart.of_tables rfl rfl
    · exact NoStart.of_tables (by simp) (by simp)
  unfold cmdDatapathReset
  split
  · exact (((((resetTables_noStart s).trans (present_noStart 0 _)).trans (present_noStart 1 _)).trans
      (present_noStart 2 _)).trans (present_noStart 3 _)).trans (hq _)
  · exact NoStart.refl s

/-! ### Events -/

/-- The events that write configuration, rings, owners or ranges, or start a stream. -/
def writesConfig : Instr → Bool
  | .setStream _ _ => true
  | .clearStream _ _ => true
  | .setConsumer _ _ => true
  | .assignPage _ _ => true
  | .unassignPage _ _ => true
  | .startStream _ _ => true
  | .pinReset => true
  | _ => false

/-- Every other event keeps all that, and starts no stream. -/
theorem exec_noStart {i : Instr} {s t : State} (hi : writesConfig i = false) (h : exec i s = .next t) : NoStart s t := by
  have whenHigh : ∀ u : State, NoStart s u → NoStart s (if s.resetn then u else s) := by
    intro u hu
    split
    · exact hu
    · exact NoStart.refl s
  have frame : ∀ {bytes : List Byte} {command : State → Answer}, (∀ u, NoStart u (command u).state) →
      NoStart s (frameEnd bytes command s) := fun hc =>
    frameEnd_keeps (fun _ _ k l => NoStart.trans l k) (NoStart.refl s) ((shiftFrame_noStart _ s).trans (hc _))
  have steering : ∀ {bytes : List Byte} {command : State → Answer}, (∀ u, NoStart u (command u).state) →
      NoStart s (steeringFrameEnd bytes command s) := fun hc =>
    steeringFrameEnd_keeps (fun _ _ k l => NoStart.trans l k) (NoStart.refl s) ((shiftFrame_noStart _ s).trans (hc _))
  cases i <;> cases hi <;> cases h
  case boundaryEvent n => exact whenHigh _ (boundary_noStart n s)
  case takeEvent n x => exact whenHigh _ (take_noStart n x s)
  case acceptance p r urg =>
    split
    · refine NoStart.trans (NoStart.trans ?_ (acceptHead_noStart _ _ _)) (testWaiting_noStart _)
      exact NoStart.of_tables rfl rfl
    · exact NoStart.of_tables rfl rfl
  case indication urg =>
    refine whenHigh _ (NoStart.trans (NoStart.trans ?_ (runGrants_noStart _)) (testWaiting_noStart _))
    exact NoStart.of_tables rfl rfl
  case downstreamCompletion c => exact whenHigh _ (complete_noStart c s)
  case delivery p => exact whenHigh _ (deliver_noStart p s)
  case nop f => exact frame fun u => NoStart.refl u
  case stopStream b f => exact steering (cmdStopStream_noStart b)
  case freeze b t o f => exact frame (cmdFreeze_noStart b t o)
  case setArbiter w0 w1 w2 w3 f => exact frame (cmdSetArbiter_noStart w0 w1 w2 w3)
  case setEvents w m f => exact frame (cmdSetEvents_noStart w m)
  case popEvents k f => exact frame (cmdPopEvents_noStart k)
  case readStream b f => exact frame (cmdReadStream_noStart b)
  case readPage b f => exact frame (cmdReadPage_noStart b)
  case readCounters g n x c f => exact frame (cmdReadCounters_noStart g n x c)
  case datapathReset b f => exact steering (cmdDatapathReset_noStart b)
  case unknownCommand c f => exact frame fun u => NoStart.refl u
  case discardedFrame bits =>
    split
    · exact NoStart.of_tables rfl rfl
    · exact NoStart.refl s
  case resetnRise low =>
    split
    · exact NoStart.refl s
    · refine NoStart.trans ?_ (testWaiting_noStart _)
      exact NoStart.of_tables rfl rfl
  case shortFrame c f => exact frame fun u => NoStart.refl u
  case chipSelectRiseAfterPinReset =>
    split
    · exact NoStart.of_tables rfl rfl
    · exact NoStart.refl s

/-! ### Commands that write configuration: what each leaves (R7, R10, R24, R25, R86, R88) -/

theorem cmdSetStream_state (a : SetStreamArgs) (s : State) :
    (cmdSetStream a s).state = s ∨ ∃ g, checkSetStream a = some g ∧ (s.stream g.stream).active = false
      ∧ apertureOverlaps s (setStreamRange a) g.stream .producer = false
      ∧ (cmdSetStream a s).state = s.modStream g.stream fun st => st.configured a g := by
  unfold cmdSetStream
  cases checkSetStream a with
  | none => exact Or.inl rfl
  | some g =>
    dsimp only
    split
    · exact Or.inl rfl
    · next ha =>
      split
      · exact Or.inl rfl
      · next ho => exact Or.inr ⟨g, rfl, by simpa using ha, by simpa using ho, rfl⟩

theorem cmdClearStream_state (b : Byte) (s : State) :
    (cmdClearStream b s).state = s ∨ ∃ n, (s.stream n).state = .off
      ∧ (cmdClearStream b s).state = s.modStream n Stream.cleared := by
  unfold cmdClearStream
  cases streamOf b with
  | none => exact Or.inl rfl
  | some n =>
    dsimp only
    split
    · next h => exact Or.inr ⟨n, by simp_all, rfl⟩
    · exact Or.inl rfl

theorem cmdSetConsumer_state (a : SetConsumerArgs) (s : State) :
    (cmdSetConsumer a s).state = s ∨ ∃ n x, (s.stream n).state = .off
      ∧ ((cmdSetConsumer a s).state = s.modSlot n x Slot.disabled
        ∨ (apertureOverlaps s (setConsumerRange a) n (.slot x) = false
          ∧ (cmdSetConsumer a s).state = s.modSlot n x fun sl => sl.configured a)) := by
  unfold cmdSetConsumer
  cases checkSetConsumer a with
  | none => exact Or.inl rfl
  | some c =>
    obtain ⟨n, x, on⟩ := c
    dsimp only
    split
    · exact Or.inl rfl
    · next hs =>
      refine Or.imp_right (fun h => ⟨n, x, by simpa using hs, h⟩) ?_
      split
      · exact Or.inr (Or.inl rfl)
      · split
        · exact Or.inl rfl
        · next ho => exact Or.inr (Or.inr ⟨by simpa using ho, rfl⟩)

theorem cmdAssignPage_state (a : AssignPageArgs) (s : State) :
    (cmdAssignPage a s).state = s ∨ ∃ p n, assignNumbersOk a = true ∧ (s.page p).stage = .unassigned
      ∧ (s.stream n).state = .off ∧ (s.stream n).ring.length < 8
      ∧ pageOverlaps s ⟨a.base.toNat, a.size.toNat⟩ = false
      ∧ (cmdAssignPage a s).state =
        (s.modPage p fun _ => Page.assignedTo n a).modStream n fun st => { st with ring := st.ring ++ [p] } := by
  unfold cmdAssignPage
  cases hc : checkAssignPage a with
  | none => exact Or.inl rfl
  | some c =>
    obtain ⟨p, n⟩ := c
    have hn : assignNumbersOk a = true := by
      unfold checkAssignPage at hc
      split at hc
      · split at hc
        · assumption
        · cases hc
      · cases hc
    dsimp only
    split
    · exact Or.inl rfl
    · next h =>
      simp only [Page.assigned, Bool.or_eq_true, not_or, bne_iff_ne, ne_eq, not_not, decide_eq_true_eq, not_le] at h
      obtain ⟨⟨hp, hs⟩, hl⟩ := h
      split
      · exact Or.inl rfl
      · next ho => exact Or.inr ⟨p, n, hn, hp, hs, hl, by simpa using ho, rfl⟩

theorem cmdUnassignPage_state (b : Byte) (s : State) :
    (cmdUnassignPage b s).state = s ∨ ∃ p n, (s.page p).stage = .free ∧ (s.page p).owner = some n
      ∧ (s.stream n).active = false
      ∧ (cmdUnassignPage b s).state =
        (s.modPage p fun _ => Page.blank).modStream n fun st => { st with ring := st.ring.filter (· != p) } := by
  unfold cmdUnassignPage
  cases pageOf b with
  | none => exact Or.inl rfl
  | some p =>
    dsimp only
    split
    · cases ho : (s.page p).owner with
      | none => exact Or.inl rfl
      | some n =>
        dsimp only
        unfold unassign
        split
        · exact Or.inl rfl
        · next ha =>
          split
          · exact Or.inl rfl
          · next hf => exact Or.inr ⟨p, n, by simpa using hf, ho, by simpa using ha, rfl⟩
    · exact Or.inl rfl

theorem cmdStartStream_state (b : Byte) (s : State) :
    (cmdStartStream b s).state = s ∨ ∃ n p rest, (s.stream n).state = .off ∧ ringFree s n = true ∧ geometryOk s n = true
      ∧ (s.stream n).ring = p :: rest ∧ (cmdStartStream b s).state = startOn n p s := by
  unfold cmdStartStream
  cases streamOf b with
  | none => exact Or.inl rfl
  | some n =>
    dsimp only
    split
    · exact Or.inl rfl
    · next hs =>
      split
      · exact Or.inl rfl
      · next hr =>
        split
        · exact Or.inl rfl
        · next hg =>
          cases hring : (s.stream n).ring with
          | nil => exact Or.inl rfl
          | cons p rest =>
            exact Or.inr ⟨n, p, rest, by simpa using hs, by simpa using hr, by simpa using hg, hring, rfl⟩

/-- A start writes no configuration (R88). -/
theorem startOn_configKept {n : StreamId} {p : PageId} {s : State} (hs : (s.stream n).state = .off)
    (hp : (s.page p).stage ≠ .unassigned) : ConfigKept s (startOn n p s) := by
  refine ⟨fun m => ?_, fun q => ?_⟩
  · unfold startOn
    rw [modStream_stream]
    split
    · next hm =>
      subst hm
      show ((s.stream m).started p).config = (s.stream m).config
      simp [Stream.config, Stream.started, Slot.config, Slot.restarted, hs]
    · rfl
  · show ((startPages s (s.stream n).ring p).get q).config = _
    rw [startPages, mapAll_get]
    split
    · next hq =>
      rw [beq_iff_eq] at hq
      subst hq
      exact Page.config_of_assigned hp (by simp [Page.firstFill]) rfl rfl rfl
    · split <;> rfl

end Sys2Proof.Machine

/-! PROOFS. Every step keeps assigned pages and defined apertures disjoint (O55), and the geometry of running streams (O56). -/

namespace Sys2Proof.Machine

/-! ## Apertures by stream and role (R5) -/

theorem Range.overlaps_comm (a b : Range) : a.overlaps b = b.overlaps a := by
  simp only [Range.overlaps, Bool.and_comm, Bool.and_left_comm]

/-- The stream has an aperture of this role, once it is defined. -/
def Stream.hasAperture (st : Stream) : Role → Bool
  | .producer => true
  | .slot x => (st.slot x).enabled

/-- The range of the aperture of this role. -/
def Stream.apertureOf (st : Stream) : Role → Range
  | .producer => st.aperture
  | .slot x => (st.slot x).aperture

theorem mem_slotApertures {n : StreamId} {x : SlotId} {sl : Slot} {a : Aperture} :
    a ∈ slotApertures n x sl ↔ sl.enabled = true ∧ a = ⟨n, .slot x, sl.aperture⟩ := by
  unfold slotApertures
  split <;> simp_all

theorem mem_streamApertures {n : StreamId} {st : Stream} {a : Aperture} :
    a ∈ streamApertures n st ↔
      a.stream = n ∧ st.state ≠ .undefined ∧ st.hasAperture a.role = true ∧ a.range = st.apertureOf a.role := by
  obtain ⟨m, role, range⟩ := a
  unfold streamApertures
  by_cases hu : st.state = .undefined
  · simp [hu]
  · rw [if_neg (by simpa using hu)]
    simp only [List.mem_cons, List.mem_append, mem_slotApertures, Aperture.mk.injEq]
    cases role with
    | producer => simp [Stream.hasAperture, Stream.apertureOf, hu]
    | slot x => cases x <;> simp [Stream.hasAperture, Stream.apertureOf, Stream.slot, hu, and_left_comm]

theorem mem_definedApertures_iff {s : State} {a : Aperture} :
    a ∈ definedApertures s ↔
      (s.stream a.stream).state ≠ .undefined ∧ (s.stream a.stream).hasAperture a.role = true
        ∧ a.range = (s.stream a.stream).apertureOf a.role := by
  simp only [definedApertures, List.mem_flatMap, List.mem_finRange, true_and, mem_streamApertures]
  constructor
  · rintro ⟨n, rfl, h⟩
    exact h
  · exact fun h => ⟨_, rfl, h⟩

/-- No two defined apertures are of one stream and one role. -/
theorem definedApertures_keys (s : State) :
    (definedApertures s).Pairwise fun a b => ¬ (a.stream = b.stream ∧ a.role = b.role) := by
  unfold definedApertures
  rw [List.pairwise_flatMap]
  constructor
  · intro n _
    unfold streamApertures slotApertures
    split
    · exact List.Pairwise.nil
    · cases (s.stream n).slotA.enabled <;> cases (s.stream n).slotB.enabled <;> simp
  · refine (List.nodup_finRange 8).imp fun hne a ha b hb h => hne ?_
    rw [← (mem_streamApertures.1 ha).1, ← (mem_streamApertures.1 hb).1, h.1]

/-- The defined apertures are pairwise disjoint when any two of them of different stream or role are. -/
theorem disjoint_apertures_iff (s : State) :
    ((definedApertures s).Pairwise fun a b => a.range.overlaps b.range = false) ↔
      ∀ a ∈ definedApertures s, ∀ b ∈ definedApertures s, ¬ (a.stream = b.stream ∧ a.role = b.role) →
        a.range.overlaps b.range = false := by
  constructor
  · intro h a ha b hb hne
    have symm : Std.Symm fun a b : Aperture => a.range.overlaps b.range = false :=
      ⟨fun a b hab => (Range.overlaps_comm _ _).trans hab⟩
    exact h.forall ha hb fun e => hne (e ▸ ⟨rfl, rfl⟩)
  · exact fun h => (definedApertures_keys s).imp_of_mem fun ha hb hne => h _ ha _ hb hne

theorem meetsPage_eq_false {s : State} {r : Range} :
    meetsPage s r = false ↔ ∀ p, (s.page p).stage ≠ .unassigned → r.overlaps (s.page p).range = false := by
  simp [meetsPage, assignedPages, Page.assigned]

/-- The overlap test of R8, in words. -/
theorem apertureOverlaps_eq_false {s : State} {r : Range} {n : StreamId} {role : Role} :
    apertureOverlaps s r n role = false ↔
      (∀ ap ∈ definedApertures s, ap.stream = n ∧ ap.role = role ∨ r.overlaps ap.range = false)
        ∧ ∀ p, (s.page p).stage ≠ .unassigned → r.overlaps (s.page p).range = false := by
  rw [apertureOverlaps, Bool.or_eq_false_iff, meetsPage_eq_false]
  refine and_congr_left fun _ => ?_
  rw [List.any_eq_false]
  refine forall₂_congr fun ap _ => ?_
  by_cases h1 : ap.stream = n <;> by_cases h2 : ap.role = role <;> simp [meetsAperture, h1, h2]

theorem Range.pastTop_eq_false {a : Range} : a.pastTop = false ↔ a.base + a.size - 1 ≤ 0xFFFFFFFFFF := by
  rw [Range.pastTop, decide_eq_false_iff_not, Nat.not_lt]
  rfl

/-! ## Every step keeps pages and apertures disjoint (R8, R23, R27) -/

theorem streamApertures_config (n : StreamId) (st : Stream) : streamApertures n st.config = streamApertures n st := by
  unfold streamApertures
  by_cases h : st.state = .undefined
  · simp [Stream.config, h]
  · have hc : st.config.state = .off := if_neg h
    rw [hc]
    simp only [beq_iff_eq, h, if_false, reduceCtorEq]
    rfl

theorem ConfigKept.definedApertures {s t : State} (h : ConfigKept s t) : definedApertures t = definedApertures s := by
  have hn : ∀ n, streamApertures n (t.stream n) = streamApertures n (s.stream n) := fun n => by
    rw [← streamApertures_config, h.streams n, streamApertures_config]
  simp only [Machine.definedApertures, hn]

theorem RangesLaw.configKept {s t : State} (h : RangesLaw s) (k : ConfigKept s t) : RangesLaw t := by
  obtain ⟨h1, h2, h3, h4, h5⟩ := h
  have hr : ∀ p, (t.page p).range = (s.page p).range := fun p => Page.config_range (k.pages p)
  have hu : ∀ p, (t.page p).stage ≠ .unassigned ↔ (s.page p).stage ≠ .unassigned := fun p =>
    not_congr (Page.config_unassigned (k.pages p))
  refine ⟨?_, fun a ha p hp => ?_, fun p q hpq hp hq => ?_, fun p => ?_, fun n hn => ?_⟩
  · rwa [k.definedApertures]
  · rw [hr]
    exact h2 a (k.definedApertures ▸ ha) p ((hu p).1 hp)
  · rw [hr, hr]
    exact h3 p q hpq ((hu p).1 hp) ((hu q).1 hq)
  · have hp := hr p
    simp only [Page.range, Range.mk.injEq] at hp
    rw [hp.1, hp.2]
    exact h4 p
  · obtain ⟨ha, hb⟩ := h5 n ((Stream.config_undefined (k.streams n)).1 hn)
    have ea : (t.stream n).slotA.enabled = (s.stream n).slotA.enabled :=
      congrArg (fun st => st.slotA.enabled) (k.streams n)
    have eb : (t.stream n).slotB.enabled = (s.stream n).slotB.enabled :=
      congrArg (fun st => st.slotB.enabled) (k.streams n)
    exact ⟨ea.trans ha, eb.trans hb⟩

/-- Apertures may go, with pages as they were. -/
theorem RangesLaw.fewer_apertures {s t : State} (h : RangesLaw s) (hp : t.pages = s.pages)
    (ha : ∀ a ∈ definedApertures t, a ∈ definedApertures s)
    (hs : ∀ n, (t.stream n).state = .undefined → (t.stream n).slotA.enabled = false ∧ (t.stream n).slotB.enabled = false) :
    RangesLaw t := by
  obtain ⟨h1, h2, h3, h4, _⟩ := h
  have ep : ∀ p, t.page p = s.page p := fun p => by simp [State.page, hp]
  rw [disjoint_apertures_iff] at h1
  refine ⟨(disjoint_apertures_iff t).2 fun a hm b hb => h1 a (ha a hm) b (ha b hb), ?_, ?_, ?_, hs⟩ <;> simp only [ep]
  · exact fun a hm => h2 a (ha a hm)
  · exact h3
  · exact h4

/-- An aperture may come that passes the overlap test, in the place of the one of its stream and role (R8). -/
theorem RangesLaw.new_aperture {s t : State} {n : StreamId} {role : Role} {r : Range} (h : RangesLaw s)
    (hp : t.pages = s.pages) (ho : apertureOverlaps s r n role = false)
    (ha : ∀ a ∈ definedApertures t, a ∈ definedApertures s ∨ (a.stream = n ∧ a.role = role) ∧ a.range = r)
    (hs : ∀ n, (t.stream n).state = .undefined → (t.stream n).slotA.enabled = false ∧ (t.stream n).slotB.enabled = false) :
    RangesLaw t := by
  obtain ⟨h1, h2, h3, h4, _⟩ := h
  obtain ⟨hap, hpg⟩ := apertureOverlaps_eq_false.1 ho
  have ep : ∀ p, t.page p = s.page p := fun p => by simp [State.page, hp]
  rw [disjoint_apertures_iff] at h1
  refine ⟨(disjoint_apertures_iff t).2 fun a hm b hb hne => ?_, ?_, ?_, ?_, hs⟩
  · rcases ha a hm with hao | ⟨⟨an, ar⟩, he⟩ <;> rcases ha b hb with hbo | ⟨⟨bn, br⟩, hf⟩
    · exact h1 a hao b hbo hne
    · rw [hf, Range.overlaps_comm]
      exact (hap a hao).resolve_left fun k => hne ⟨k.1.trans bn.symm, k.2.trans br.symm⟩
    · rw [he]
      exact (hap b hbo).resolve_left fun k => hne ⟨an.trans k.1.symm, ar.trans k.2.symm⟩
    · exact absurd ⟨an.trans bn.symm, ar.trans br.symm⟩ hne
  · intro a hm p hst
    rw [ep] at hst ⊢
    rcases ha a hm with hao | ⟨_, he⟩
    · exact h2 a hao p hst
    · rw [he]
      exact hpg p hst
  · simpa only [ep] using h3
  · simpa only [ep] using h4

theorem cmdSetStream_ranges {a : SetStreamArgs} {s : State} (h : RangesLaw s) : RangesLaw (cmdSetStream a s).state := by
  rcases cmdSetStream_state a s with e | ⟨g, _, _, ho, e⟩ <;> rw [e]
  · exact h
  obtain ⟨_, _, _, _, hslots⟩ := id h
  refine h.new_aperture rfl ho (fun ap hap => ?_) fun m hm => ?_
  · rw [mem_definedApertures_iff] at hap
    by_cases hn : ap.stream = g.stream
    · rw [hn, modStream_stream_same] at hap
      obtain ⟨_, hh, hr⟩ := hap
      cases hrole : ap.role with
      | producer =>
        refine Or.inr ⟨⟨hn, rfl⟩, ?_⟩
        rw [hr, hrole]
        rfl
      | slot x =>
        have he : ((s.stream g.stream).slot x).enabled = true := by
          rw [hrole] at hh
          cases x <;> exact hh
        refine Or.inl (mem_definedApertures_iff.2 ?_)
        rw [hn, hrole]
        refine ⟨fun hu => ?_, he, ?_⟩
        · obtain ⟨da, db⟩ := hslots g.stream hu
          cases x
          · exact absurd he (by simp [Stream.slot, da])
          · exact absurd he (by simp [Stream.slot, db])
        · rw [hr, hrole]
          cases x <;> rfl
    · rw [modStream_stream_other _ hn] at hap
      exact Or.inl (mem_definedApertures_iff.2 hap)
  · by_cases hn : m = g.stream
    · subst hn
      simp [Stream.configured] at hm
    · simp only [modStream_stream_other _ hn] at hm ⊢
      exact hslots m hm

theorem cmdClearStream_ranges {b : Byte} {s : State} (h : RangesLaw s) : RangesLaw (cmdClearStream b s).state := by
  rcases cmdClearStream_state b s with e | ⟨n, _, e⟩ <;> rw [e]
  · exact h
  obtain ⟨_, _, _, _, hslots⟩ := id h
  refine h.fewer_apertures rfl (fun ap hap => ?_) fun m hm => ?_
  · rw [mem_definedApertures_iff] at hap
    by_cases hn : ap.stream = n
    · rw [hn, modStream_stream_same] at hap
      exact absurd rfl hap.1
    · rw [modStream_stream_other _ hn] at hap
      exact mem_definedApertures_iff.2 hap
  · by_cases hn : m = n
    · subst hn
      rw [modStream_stream_same]
      exact ⟨rfl, rfl⟩
    · simp only [modStream_stream_other _ hn] at hm ⊢
      exact hslots m hm

/-- A change of slot x of a defined stream leaves every aperture of another stream or role. -/
theorem mem_definedApertures_modSlot {s : State} {n : StreamId} {x : SlotId} {f : Slot → Slot} {ap : Aperture}
    (hap : ap ∈ definedApertures (s.modSlot n x f)) : ap ∈ definedApertures s
      ∨ (ap.stream = n ∧ ap.role = .slot x) ∧ (f (s.slot n x)).enabled = true ∧ ap.range = (f (s.slot n x)).aperture := by
  rw [mem_definedApertures_iff] at hap
  by_cases hn : ap.stream = n
  · rw [hn, modSlot_stream_same] at hap
    obtain ⟨hu, hh, hr⟩ := hap
    rw [Stream.modSlot_state] at hu
    by_cases hx : ap.role = .slot x
    · rw [hx] at hh hr
      simp only [Stream.hasAperture, Stream.apertureOf, Stream.modSlot_slot_same] at hh hr
      exact Or.inr ⟨⟨hn, hx⟩, hh, hr⟩
    · refine Or.inl (mem_definedApertures_iff.2 ?_)
      rw [hn]
      cases hrole : ap.role with
      | producer =>
        rw [hrole] at hr
        refine ⟨hu, rfl, hr.trans ?_⟩
        simp [Stream.apertureOf, Stream.aperture]
      | slot y =>
        have hy : y ≠ x := fun e => hx (by rw [hrole, e])
        rw [hrole] at hh hr
        simp only [Stream.hasAperture, Stream.apertureOf, Stream.modSlot_slot_other _ hy] at hh hr
        exact ⟨hu, hh, hr⟩
  · rw [modSlot_stream_other _ hn] at hap
    exact Or.inl (mem_definedApertures_iff.2 hap)

theorem cmdSetConsumer_ranges {a : SetConsumerArgs} {s : State} (h : RangesLaw s) :
    RangesLaw (cmdSetConsumer a s).state := by
  rcases cmdSetConsumer_state a s with e | ⟨n, x, hoff, e⟩
  · rw [e]
    exact h
  obtain ⟨_, _, _, _, hslots⟩ := id h
  have hdis : ∀ f m, ((s.modSlot n x f).stream m).state = .undefined →
      ((s.modSlot n x f).stream m).slotA.enabled = false ∧ ((s.modSlot n x f).stream m).slotB.enabled = false := by
    intro f m hm
    by_cases hn : m = n
    · subst hn
      simp [hoff] at hm
    · simp only [modSlot_stream_other _ hn] at hm ⊢
      exact hslots m hm
  rcases e with e | ⟨ho, e⟩ <;> rw [e]
  · refine h.fewer_apertures rfl (fun ap hap => ?_) (hdis _)
    exact (mem_definedApertures_modSlot hap).resolve_right fun ⟨_, hen, _⟩ => by cases hen
  · refine h.new_aperture rfl ho (fun ap hap => ?_) (hdis _)
    exact (mem_definedApertures_modSlot hap).imp_right fun ⟨hk, _, hr⟩ => ⟨hk, hr⟩

/-- A ring is no part of an aperture. -/
theorem definedApertures_ring (s : State) (n : StreamId) (f : List PageId → List PageId) :
    definedApertures (s.modStream n fun st => { st with ring := f st.ring }) = definedApertures s := by
  have h : ∀ m, streamApertures m ((s.modStream n fun st => { st with ring := f st.ring }).stream m)
      = streamApertures m (s.stream m) := fun m => by
    rw [modStream_stream]
    split
    · next hm =>
      subst hm
      rfl
    · rfl
  simp only [definedApertures, h]

theorem undefined_slots_ring {s : State} {n : StreamId} {f : List PageId → List PageId}
    (h : ∀ m, (s.stream m).state = .undefined → (s.stream m).slotA.enabled = false ∧ (s.stream m).slotB.enabled = false)
    (m : StreamId) : ((s.modStream n fun st => { st with ring := f st.ring }).stream m).state = .undefined →
      ((s.modStream n fun st => { st with ring := f st.ring }).stream m).slotA.enabled = false
        ∧ ((s.modStream n fun st => { st with ring := f st.ring }).stream m).slotB.enabled = false := by
  rw [modStream_stream]
  split
  · next hm =>
    subst hm
    exact h m
  · exact h m

/-- One page may change: one that becomes UNASSIGNED and blank, or one with a range that passes the overlap test (R23). -/
theorem RangesLaw.new_page {s : State} {p : PageId} {pg : Page} (h : RangesLaw s)
    (ht : pg.base.toNat + pg.size.toNat ≤ 2 ^ 40)
    (ha : pg.stage ≠ .unassigned → ∀ a ∈ definedApertures s, a.range.overlaps pg.range = false)
    (hq : pg.stage ≠ .unassigned → ∀ q, q ≠ p → (s.page q).stage ≠ .unassigned → pg.range.overlaps (s.page q).range = false) :
    RangesLaw (s.modPage p fun _ => pg) := by
  obtain ⟨h1, h2, h3, h4, h5⟩ := h
  refine ⟨h1, fun a hm q hst => ?_, fun q1 q2 hne hst1 hst2 => ?_, fun q => ?_, h5⟩
  · rw [modPage_page] at hst ⊢
    split at hst
    · next e => simpa [e] using ha hst a hm
    · next e => simpa [e] using h2 a hm q hst
  · rw [modPage_page] at hst1 hst2
    rw [modPage_page, modPage_page]
    split at hst1 <;> split at hst2
    · next e1 e2 => exact absurd (e1.trans e2.symm) hne
    · next e1 e2 => simpa [e1, e2] using hq hst1 q2 e2 hst2
    · next e1 e2 =>
      rw [Range.overlaps_comm]
      simpa [e1, e2] using hq hst2 q1 e1 hst1
    · next e1 e2 => simpa [e1, e2] using h3 q1 q2 hne hst1 hst2
  · rw [modPage_page]
    split
    · exact ht
    · exact h4 q

theorem RangesLaw.ring {s : State} {n : StreamId} {f : List PageId → List PageId} (h : RangesLaw s) :
    RangesLaw (s.modStream n fun st => { st with ring := f st.ring }) := by
  obtain ⟨h1, h2, h3, h4, h5⟩ := h
  refine ⟨?_, ?_, h3, h4, undefined_slots_ring h5⟩ <;> rw [definedApertures_ring]
  · exact h1
  · exact h2

theorem assignedTo_top {n : StreamId} {a : AssignPageArgs} (h : assignNumbersOk a = true) :
    (Page.assignedTo n a).base.toNat + (Page.assignedTo n a).size.toNat ≤ 2 ^ 40 := by
  simp only [assignNumbersOk, Bool.and_eq_true, Bool.not_eq_true', Range.pastTop_eq_false, decide_eq_true_eq] at h
  obtain ⟨⟨⟨⟨_, hsize⟩, _⟩, _⟩, htop⟩ := h
  simp only [Page.assignedTo]
  omega

theorem cmdAssignPage_ranges {a : AssignPageArgs} {s : State} (h : RangesLaw s) : RangesLaw (cmdAssignPage a s).state := by
  rcases cmdAssignPage_state a s with e | ⟨p, n, hok, _, _, _, ho, e⟩ <;> rw [e]
  · exact h
  rw [pageOverlaps, Bool.or_eq_false_iff, meetsPage_eq_false, List.any_eq_false] at ho
  obtain ⟨hap, hpg⟩ := ho
  have hnew : RangesLaw (s.modPage p fun _ => Page.assignedTo n a) := by
    refine h.new_page (assignedTo_top hok) (fun _ ap hm => ?_) fun _ q _ hst => hpg q hst
    rw [Range.overlaps_comm]
    exact Bool.eq_false_iff.2 (hap ap hm)
  exact hnew.ring (f := (· ++ [p]))

theorem cmdUnassignPage_ranges {b : Byte} {s : State} (h : RangesLaw s) : RangesLaw (cmdUnassignPage b s).state := by
  rcases cmdUnassignPage_state b s with e | ⟨p, n, _, _, _, e⟩ <;> rw [e]
  · exact h
  · exact RangesLaw.ring (h.new_page (by simp [Page.blank]) (fun hu => absurd rfl hu) fun hu => absurd rfl hu)

theorem ringFree_head {s : State} {n : StreamId} {p : PageId} {rest : List PageId} (hf : ringFree s n = true)
    (hr : (s.stream n).ring = p :: rest) : (s.page p).stage = .free := by
  simp only [ringFree, hr, List.all_cons, Bool.and_eq_true, beq_iff_eq] at hf
  exact hf.1

theorem cmdStartStream_ranges {b : Byte} {s : State} (h : RangesLaw s) : RangesLaw (cmdStartStream b s).state := by
  rcases cmdStartStream_state b s with e | ⟨n, p, rest, hoff, hf, _, hr, e⟩ <;> rw [e]
  · exact h
  · exact h.configKept (startOn_configKept hoff (by simp [ringFree_head hf hr]))

theorem reset_stream (n : StreamId) : State.reset.stream n = Stream.blank := replicate_get _ n
theorem reset_page (p : PageId) : State.reset.page p = Page.blank := replicate_get _ p
theorem reset_entry (e : EntryId) : State.reset.entry e = Entry.blank := replicate_get _ e
theorem reset_port (p : PortId) : State.reset.port p = Port.blank := replicate_get _ p

theorem reset_definedApertures : definedApertures State.reset = [] := by
  simp [definedApertures, streamApertures, reset_stream, Stream.blank]

theorem reset_ranges : RangesLaw State.reset := by
  refine ⟨?_, ?_, ?_, ?_, ?_⟩ <;>
    simp [reset_definedApertures, reset_stream, reset_page, Stream.blank, Page.blank, Slot.blank]

theorem configuring_cases {i : Instr} (h : writesConfig i = true) :
    (∃ a f, i = .setStream a f) ∨ (∃ b f, i = .clearStream b f) ∨ (∃ a f, i = .setConsumer a f)
      ∨ (∃ a f, i = .assignPage a f) ∨ (∃ b f, i = .unassignPage b f) ∨ (∃ b f, i = .startStream b f) ∨ i = .pinReset := by
  cases i <;> cases h <;> simp

/-- Every event keeps pages and apertures disjoint. -/
theorem exec_keeps_ranges {i : Instr} {s t : State} (h : RangesLaw s) (e : exec i s = .next t) : RangesLaw t := by
  have kept : ∀ u v, NoStart u v → RangesLaw u → RangesLaw v := fun _ _ k l => l.configKept k.toConfigKept
  have shifted : ∀ bytes, RangesLaw (shiftFrame bytes s) := fun bytes => kept _ _ (shiftFrame_noStart bytes s) h
  cases hw : writesConfig i with
  | false => exact kept _ _ (exec_noStart hw e) h
  | true =>
    rcases configuring_cases hw with ⟨a, f, rfl⟩ | ⟨b, f, rfl⟩ | ⟨a, f, rfl⟩ | ⟨a, f, rfl⟩ | ⟨b, f, rfl⟩ | ⟨b, f, rfl⟩ | rfl <;>
      cases e
    · exact steeringFrameEnd_keeps kept h (cmdSetStream_ranges (shifted _))
    · exact steeringFrameEnd_keeps kept h (cmdClearStream_ranges (shifted _))
    · exact steeringFrameEnd_keeps kept h (cmdSetConsumer_ranges (shifted _))
    · exact steeringFrameEnd_keeps kept h (cmdAssignPage_ranges (shifted _))
    · exact steeringFrameEnd_keeps kept h (cmdUnassignPage_ranges (shifted _))
    · exact steeringFrameEnd_keeps kept h (cmdStartStream_ranges (shifted _))
    · exact reset_ranges

/-- A step is an idle one or an event's (log 1). -/
theorem step_cases {s t : State} (h : step s = .next t) :
    t = s ∨ ∃ i rest, exec i { s with pending := rest } = .next t := by
  unfold step at h
  split at h
  · cases h
    exact Or.inl rfl
  · next c rest _ => exact Or.inr ⟨c, rest, h⟩

/-- Settles O55: only five commands write apertures or page ranges, and the three that add one have it pass the overlap test
of R8 or R23. -/
theorem rangesLawKept : Obligations.RangesLawKept := by
  intro s t h e
  rcases step_cases e with rfl | ⟨i, rest, e⟩
  · exact h
  · exact exec_keeps_ranges (s := { s with pending := rest }) h e

/-! ## Every step keeps the geometry of running streams (R15, R16) -/

theorem Stream.active_iff (st : Stream) : st.active = true ↔ st.state = .running ∨ st.state = .stopping := by
  simp [Stream.active]

/-- The conditions of R15 read configuration and the sizes of ring pages only. -/
theorem GeometryFits.congr {s t : State} {n : StreamId} (h : GeometryFits s n)
    (hn : (t.stream n).config = (s.stream n).config) (hp : ∀ p ∈ (s.stream n).ring, (t.page p).size = (s.page p).size) :
    GeometryFits t n := by
  obtain ⟨h1, h2, h3, h4, h5⟩ := h
  have hr : (t.stream n).config.ring = (s.stream n).config.ring := congrArg Stream.ring hn
  have hl : (t.stream n).config.pageLines = (s.stream n).config.pageLines := congrArg Stream.pageLines hn
  have hs : (t.stream n).config.stride = (s.stream n).config.stride := congrArg Stream.stride hn
  change (t.stream n).ring = (s.stream n).ring at hr
  change (t.stream n).pageLines = (s.stream n).pageLines at hl
  change (t.stream n).stride = (s.stream n).stride at hs
  have crop : ∀ x, (((s.stream n).slot x).enabled = true → CropFits (s.stream n) ((s.stream n).slot x)) →
      ((t.stream n).slot x).enabled = true → CropFits (t.stream n) ((t.stream n).slot x) := by
    intro x k
    change ((t.stream n).slot x).config.enabled = true → CropFits (t.stream n).config ((t.stream n).slot x).config
    rw [Stream.config_slot hn x, hn]
    exact k
  refine ⟨hr ▸ h1, ?_, fun p hm => ?_, crop .a h4, crop .b h5⟩
  · change (t.stream n).config.lineLength.toNat ≤ (t.stream n).config.stride.toNat
    rw [hn]
    exact h2
  · rw [hr] at hm
    rw [hp p hm, hl, hs]
    exact h3 p hm

theorem geometryFits_of_geometryOk {s : State} {n : StreamId} (h : geometryOk s n = true) : GeometryFits s n := by
  simp only [geometryOk, slotFits, Bool.and_eq_true, Bool.or_eq_true, Bool.not_eq_true', decide_eq_true_eq,
    List.all_eq_true] at h
  obtain ⟨⟨⟨⟨h1, h2⟩, h3⟩, h4⟩, h5⟩ := h
  exact ⟨h1, h2, h3, fun he => h4.resolve_left (by simp [he]), fun he => h5.resolve_left (by simp [he])⟩

/-- Where every stream that is active now was active before, with the same configuration and ring pages of the same size. -/
theorem GeometryLaw.of_active {s t : State} (h : GeometryLaw s)
    (ha : ∀ n, (t.stream n).active = true → (s.stream n).active = true ∧ (t.stream n).config = (s.stream n).config
      ∧ ∀ p ∈ (s.stream n).ring, (t.page p).size = (s.page p).size) : GeometryLaw t := by
  intro n hn
  obtain ⟨h1, h2, h3⟩ := ha n ((Stream.active_iff _).2 hn)
  exact (h n ((Stream.active_iff _).1 h1)).congr h2 h3

theorem Page.config_size {a b : Page} (h : b.config = a.config) : b.size = a.size := by
  have hs : b.config.size = a.config.size := congrArg Page.size h
  exact hs

theorem GeometryLaw.noStart {s t : State} (h : GeometryLaw s) (k : NoStart s t) : GeometryLaw t :=
  h.of_active fun n hn => ⟨k.active n hn, k.streams n, fun p _ => Page.config_size (k.pages p)⟩

/-- A command that rewrites a stream which is not active and is not active behind it. -/
theorem GeometryLaw.modStream {s : State} {n : StreamId} {f : Stream → Stream} (h : GeometryLaw s)
    (hf : (f (s.stream n)).active = false) : GeometryLaw (s.modStream n f) := by
  refine h.of_active fun m hm => ?_
  by_cases hn : m = n
  · subst hn
    rw [modStream_stream_same, hf] at hm
    cases hm
  · rw [modStream_stream_other _ hn] at hm ⊢
    exact ⟨hm, rfl, fun _ _ => rfl⟩

theorem cmdSetStream_geometry {a : SetStreamArgs} {s : State} (h : GeometryLaw s) : GeometryLaw (cmdSetStream a s).state := by
  rcases cmdSetStream_state a s with e | ⟨g, _, _, _, e⟩ <;> rw [e]
  · exact h
  · exact h.modStream rfl

theorem cmdClearStream_geometry {b : Byte} {s : State} (h : GeometryLaw s) : GeometryLaw (cmdClearStream b s).state := by
  rcases cmdClearStream_state b s with e | ⟨n, _, e⟩ <;> rw [e]
  · exact h
  · exact h.modStream rfl

theorem cmdSetConsumer_geometry {a : SetConsumerArgs} {s : State} (h : GeometryLaw s) :
    GeometryLaw (cmdSetConsumer a s).state := by
  rcases cmdSetConsumer_state a s with e | ⟨n, x, hoff, e | ⟨_, e⟩⟩ <;> rw [e]
  · exact h
  all_goals exact h.modStream (by simp [Stream.active, hoff])

/-- A page that stands in no ring of an active stream may change. -/
theorem GeometryLaw.modPage {s : State} {p : PageId} {f : Page → Page} (h : GeometryLaw s)
    (hp : ∀ n, (s.stream n).active = true → p ∉ (s.stream n).ring) : GeometryLaw (s.modPage p f) :=
  h.of_active fun n hn => ⟨hn, rfl, fun q hq => by
    have hne : q ≠ p := fun e => hp n hn (e ▸ hq)
    rw [modPage_page_other _ hne]⟩

theorem cmdAssignPage_geometry {a : AssignPageArgs} {s : State} (hr : RingLaw s) (h : GeometryLaw s) :
    GeometryLaw (cmdAssignPage a s).state := by
  obtain ⟨_, hring, _⟩ := hr
  rcases cmdAssignPage_state a s with e | ⟨p, n, _, hu, hoff, _, _, e⟩ <;> rw [e]
  · exact h
  · refine (h.modPage fun m _ hm => ?_).modStream (by simp [Stream.active, hoff])
    exact ((hring m p).1 hm).1 hu

theorem cmdUnassignPage_geometry {b : Byte} {s : State} (hr : RingLaw s) (h : GeometryLaw s) :
    GeometryLaw (cmdUnassignPage b s).state := by
  obtain ⟨_, hring, _⟩ := hr
  rcases cmdUnassignPage_state b s with e | ⟨p, n, _, ho, hoff, e⟩ <;> rw [e]
  · exact h
  · refine (h.modPage fun m hact hm => ?_).modStream hoff
    have hown := ((hring m p).1 hm).2
    rw [ho, Option.some.injEq] at hown
    rw [hown, hact] at hoff
    cases hoff

/-- A start has tested the conditions of R15 (R87). -/
theorem cmdStartStream_geometry {b : Byte} {s : State} (h : GeometryLaw s) : GeometryLaw (cmdStartStream b s).state := by
  rcases cmdStartStream_state b s with e | ⟨n, p, rest, hoff, hf, hg, hr, e⟩ <;> rw [e]
  · exact h
  have k : ConfigKept s (startOn n p s) := startOn_configKept hoff (by simp [ringFree_head hf hr])
  intro m hm
  refine GeometryFits.congr ?_ (k.streams m) fun q _ => Page.config_size (k.pages q)
  by_cases hn : m = n
  · rw [hn]
    exact geometryFits_of_geometryOk hg
  · refine h m ?_
    rwa [startOn, modStream_stream_other _ hn] at hm

/-- Every event keeps the geometry of running streams. -/
theorem exec_keeps_geometry {i : Instr} {s t : State} (hr : RingLaw s) (h : GeometryLaw s) (e : exec i s = .next t) :
    GeometryLaw t := by
  have kept : ∀ u v, NoStart u v → GeometryLaw u → GeometryLaw v := fun _ _ k l => l.noStart k
  have shifted : ∀ bytes, GeometryLaw (shiftFrame bytes s) := fun bytes => h.noStart (shiftFrame_noStart bytes s)
  have rings : ∀ bytes, RingLaw (shiftFrame bytes s) := fun _ => hr
  cases hw : writesConfig i with
  | false => exact h.noStart (exec_noStart hw e)
  | true =>
    rcases configuring_cases hw with ⟨a, f, rfl⟩ | ⟨b, f, rfl⟩ | ⟨a, f, rfl⟩ | ⟨a, f, rfl⟩ | ⟨b, f, rfl⟩ | ⟨b, f, rfl⟩ | rfl <;>
      cases e
    · exact steeringFrameEnd_keeps kept h (cmdSetStream_geometry (shifted _))
    · exact steeringFrameEnd_keeps kept h (cmdClearStream_geometry (shifted _))
    · exact steeringFrameEnd_keeps kept h (cmdSetConsumer_geometry (shifted _))
    · exact steeringFrameEnd_keeps kept h (cmdAssignPage_geometry (rings _) (shifted _))
    · exact steeringFrameEnd_keeps kept h (cmdUnassignPage_geometry (rings _) (shifted _))
    · exact steeringFrameEnd_keeps kept h (cmdStartStream_geometry (shifted _))
    · intro n hn
      change (State.reset.stream n).state = _ ∨ (State.reset.stream n).state = _ at hn
      simp [reset_stream, Stream.blank] at hn

/-- Settles O56: a stream starts only where START-STREAM has tested R15, and no command writes the configuration, the ring or
a ring page's size of a stream that is RUNNING or STOPPING. -/
theorem geometryLawKept : Obligations.GeometryLawKept := by
  intro s t hr h e
  rcases step_cases e with rfl | ⟨i, rest, e⟩
  · exact h
  · exact exec_keeps_geometry (s := { s with pending := rest }) hr h e

end Sys2Proof.Machine

/-! PROOFS. SET-STREAM (O11), CLEAR-STREAM (O12), SET-CONSUMER (O13) and FREEZE (O14). -/

namespace Sys2Proof.Machine

/-! ## The argument bytes of commands (R6, R9, R11, R185) -/

theorem streamOf_eq_some {b : Byte} {n : StreamId} : streamOf b = some n ↔ b.toNat = n.val := by
  unfold streamOf
  split
  · rw [Option.some.injEq, Fin.ext_iff]
  · simp only [reduceCtorEq, false_iff]
    omega

theorem streamOf_eq_none {b : Byte} (h : 7 < b.toNat) : streamOf b = none := dif_neg (by omega)

theorem transformOf_le {b : Byte} {v : Transform} (h : transformOf b = some v) : b.toNat ≤ 2 := by
  unfold transformOf at h
  split at h
  · decide
  · decide
  · decide
  · cases h

theorem takePolicyOf_le {b : Byte} {v : TakePolicy} (h : takePolicyOf b = some v) : b.toNat ≤ 1 := by
  unfold takePolicyOf at h
  split at h
  · decide
  · decide
  · cases h

theorem poolPolicyOf_le {b : Byte} {v : PoolPolicy} (h : poolPolicyOf b = some v) : b.toNat ≤ 1 := by
  unfold poolPolicyOf at h
  split at h
  · decide
  · decide
  · cases h

theorem slotOf_le {b : Byte} {x : SlotId} (h : slotOf b = some x) : b.toNat ≤ 1 := by
  unfold slotOf at h
  split at h
  · decide
  · decide
  · cases h

theorem slotOf_slotByte (x : SlotId) : slotOf (slotByte x) = some x := by cases x <;> rfl

theorem flagOf_eq_some {b : Byte} {v : Bool} (h : flagOf b = some v) : b = flagByte v := by
  unfold flagOf at h
  split at h <;> cases h <;> rfl

theorem flagOf_flagByte (v : Bool) : flagOf (flagByte v) = some v := by cases v <;> rfl

theorem flagByte_le (v : Bool) : (flagByte v).toNat ≤ 1 := by cases v <;> decide

theorem freezeTargetOf_le {b : Byte} {v : FreezeTarget} (h : freezeTargetOf b = some v) : b.toNat ≤ 2 := by
  unfold freezeTargetOf at h
  split at h
  · decide
  · decide
  · decide
  · cases h

theorem freezeTargetOf_isSome {b : Byte} (h : b.toNat ≤ 2) : ∃ v, freezeTargetOf b = some v := by
  have hb : b = 0 ∨ b = 1 ∨ b = 2 := by
    simp only [BitVec.toNat_eq]
    change b.toNat = 0 ∨ b.toNat = 1 ∨ b.toNat = 2
    omega
  rcases hb with rfl | rfl | rfl <;> exact ⟨_, rfl⟩

theorem freezeTargetOf_slot (x : SlotId) : freezeTargetOf (slotByte x + 1) = some (.slot x) := by cases x <;> rfl

theorem pageAligned_iff {a : Addr} : pageAligned a = true ↔ a.toNat % 4096 = 0 := by simp [pageAligned]

theorem linesOk_iff {w : Word16} : linesOk w = true ↔ 1 ≤ w.toNat ∧ w.toNat ≤ 4096 := by simp [linesOk]

theorem lineLengthOk_iff {w : Word16} :
    lineLengthOk w = true ↔ (256 ≤ w.toNat ∧ w.toNat ≤ 16384) ∧ w.toNat % 16 = 0 := by simp [lineLengthOk]

theorem strideOk_iff {w : Word32} : strideOk w = true ↔ (256 ≤ w.toNat ∧ w.toNat ≤ 65536) ∧ w.toNat % 16 = 0 := by
  simp [strideOk]

/-- R6, but for the codes. -/
theorem setStreamNumbersOk_iff {a : SetStreamArgs} :
    setStreamNumbersOk a = true ↔
      a.base.toNat % 4096 = 0 ∧ (1 ≤ a.lines.toNat ∧ a.lines.toNat ≤ 4096)
        ∧ ((256 ≤ a.lineLength.toNat ∧ a.lineLength.toNat ≤ 16384) ∧ a.lineLength.toNat % 16 = 0)
        ∧ ((256 ≤ a.stride.toNat ∧ a.stride.toNat ≤ 65536) ∧ a.stride.toNat % 16 = 0)
        ∧ a.producerTag.toNat ≤ 63 ∧ a.base.toNat + a.lines.toNat * a.lineLength.toNat - 1 ≤ 0xFFFFFFFFFF := by
  simp only [setStreamNumbersOk, Bool.and_eq_true, Bool.not_eq_true', Range.pastTop_eq_false, pageAligned_iff, linesOk_iff,
    lineLengthOk_iff, strideOk_iff, decide_eq_true_eq, setStreamRange, and_assoc]

/-- R9, behind the enable byte. -/
theorem setConsumerNumbersOk_iff {a : SetConsumerArgs} :
    setConsumerNumbersOk a = true ↔
      a.tag.toNat ≤ 63 ∧ a.base.toNat % 4096 = 0 ∧ (1 ≤ a.lines.toNat ∧ a.lines.toNat ≤ 4096)
        ∧ ((256 ≤ a.lineLength.toNat ∧ a.lineLength.toNat ≤ 16384) ∧ a.lineLength.toNat % 16 = 0)
        ∧ a.cropLine.toNat ≤ 8191 ∧ a.cropByte.toNat ≤ 16368 ∧ a.cropByte.toNat % 16 = 0
        ∧ a.base.toNat + a.lines.toNat * a.lineLength.toNat - 1 ≤ 0xFFFFFFFFFF := by
  simp only [setConsumerNumbersOk, Bool.and_eq_true, Bool.not_eq_true', Range.pastTop_eq_false, pageAligned_iff, linesOk_iff,
    lineLengthOk_iff, decide_eq_true_eq, beq_iff_eq, setConsumerRange, and_assoc]

theorem checkSetStream_eq_some {a : SetStreamArgs} {g : StreamSetting} :
    checkSetStream a = some g ↔
      streamOf a.stream = some g.stream ∧ transformOf a.transform = some g.transform
        ∧ takePolicyOf a.takePolicy = some g.takePolicy ∧ poolPolicyOf a.poolPolicy = some g.poolPolicy
        ∧ setStreamNumbersOk a = true := by
  unfold checkSetStream
  constructor
  · intro h
    split at h
    · next hn ht htp hpp =>
      split at h
      · next hok =>
        cases h
        exact ⟨hn, ht, htp, hpp, hok⟩
      · cases h
    · cases h
  · rintro ⟨hn, ht, htp, hpp, hok⟩
    rw [hn, ht, htp, hpp]
    exact if_pos hok

theorem checkSetConsumer_eq_some {a : SetConsumerArgs} {n : StreamId} {x : SlotId} {on : Bool} :
    checkSetConsumer a = some (n, x, on) ↔
      streamOf a.stream = some n ∧ slotOf a.slot = some x ∧ flagOf a.enable = some on
        ∧ (on = true → setConsumerNumbersOk a = true) := by
  unfold checkSetConsumer
  constructor
  · intro h
    split at h
    · next hn hx hv =>
      split at h
      · next hok =>
        cases h
        exact ⟨hn, hx, hv, fun e => by simpa [e] using hok⟩
      · cases h
    · cases h
  · rintro ⟨hn, hx, hv, hok⟩
    rw [hn, hx, hv]
    refine if_pos ?_
    cases on with
    | false => rfl
    | true => exact hok rfl

/-! ## What a command's frame leaves -/

/-- Stream n is rewritten, and every other stream, the pages, traffic and events are as they were. -/
def StreamRewritten (n : StreamId) (st : Stream) (s t : State) : Prop :=
  t.stream n = st ∧ OtherStreams n s t ∧ t.pages = s.pages ∧ SameTraffic s t ∧ SameEvents s t

theorem answered_rewritten {i : Instr} {bytes : List Byte} {bits : List Bool} {command : State → Answer} {s : State}
    {n : StreamId} {f : Stream → Stream} (hf : frameOf i = some (bytes, bits))
    (hc : command (shiftFrame bytes s) = Answer.done ((shiftFrame bytes s).modStream n f)) :
    Framed i [0x00] s (answerFrame bytes command s)
      ∧ StreamRewritten n (f (s.stream n)) s (answerFrame bytes command s) := by
  obtain ⟨he, hr⟩ := answered_of (data := []) hf hc (modStream_frame _ n f).command
  rw [he]
  refine ⟨hr, ?_, fun m hm => ?_, rfl, ⟨rfl, rfl, rfl, rfl, rfl, rfl⟩, rfl, rfl, rfl, rfl, rfl⟩
  · exact modStream_stream_same (shiftFrame bytes s) n f
  · exact modStream_stream_other (shiftFrame bytes s) hm f

/-- A steering command that rewrites one stream record, with the re-test behind it. -/
theorem steering_rewritten {i : Instr} {bytes : List Byte} {bits : List Bool} {command : State → Answer} {s : State}
    {n : StreamId} {f : Stream → Stream} (hr : PortReady s) (hf : frameOf i = some (bytes, bits))
    (he : exec i s = .next (steeringFrameEnd bytes command s))
    (hc : command (shiftFrame bytes s) = Answer.done ((shiftFrame bytes s).modStream n f)) :
    ∃ t u, exec i s = .next u ∧ Retested t u ∧ Framed i [0x00] s t ∧ StreamRewritten n (f (s.stream n)) s t := by
  rw [steeringFrameEnd_taken hr (by rw [hc]; rfl)] at he
  exact ⟨_, _, he, testWaiting_retested _, answered_rewritten hf hc⟩

theorem steering_refused {i : Instr} {bytes : List Byte} {bits : List Bool} {command : State → Answer} {s : State}
    {code : ResultCode} (hr : PortReady s) (hf : frameOf i = some (bytes, bits))
    (he : exec i s = .next (steeringFrameEnd bytes command s)) (hne : code ≠ .ok)
    (hc : command (shiftFrame bytes s) = Answer.refuse code (shiftFrame bytes s)) :
    ∃ t, exec i s = .next t ∧ RefusedBy i code.byte s t := by
  rw [steeringFrameEnd_refused hr (by rw [hc]; exact hne)] at he
  exact refused_of hf he hc

/-! ## SET-STREAM (R6, R7, R8) -/

theorem cmdSetStream_badArg {a : SetStreamArgs} (h : checkSetStream a = none) (s : State) :
    cmdSetStream a s = Answer.refuse .badArg s := by
  unfold cmdSetStream
  rw [h]

theorem cmdSetStream_checked {a : SetStreamArgs} {g : StreamSetting} (h : checkSetStream a = some g) (s : State) :
    cmdSetStream a s =
      if (s.stream g.stream).active then Answer.refuse .badState s
      else if apertureOverlaps s (setStreamRange a) g.stream .producer then Answer.refuse .overlap s
      else Answer.done (s.modStream g.stream fun st => st.configured a g) := by
  unfold cmdSetStream
  rw [h]

/-- The overlap test of R8 fails where a defined aperture of other stream or role or an assigned page is met. -/
theorem apertureOverlaps_of_meets {s : State} {r : Range} {n : StreamId} {role : Role}
    (h : (∃ ap ∈ definedApertures s, ¬ (ap.stream = n ∧ ap.role = role) ∧ r.overlaps ap.range = true)
      ∨ ∃ p, (s.page p).stage ≠ .unassigned ∧ r.overlaps (s.page p).range = true) :
    apertureOverlaps s r n role = true := by
  rw [← Bool.not_eq_false, apertureOverlaps_eq_false]
  rintro ⟨hap, hpg⟩
  rcases h with ⟨ap, hm, hk, ho⟩ | ⟨p, hp, ho⟩
  · rw [(hap ap hm).resolve_left hk] at ho
    cases ho
  · rw [hpg p hp] at ho
    cases ho

/-- Settles O11: the checks of the model are the ones of R6 to R8, and a command that passes them rewrites one record. -/
theorem setStreamDecides : Obligations.SetStreamDecides := by
  refine ⟨fun a f s hr hbad => ?_, ?_⟩
  · have hc : checkSetStream a = none := by
      cases hg : checkSetStream a with
      | none => rfl
      | some g =>
        obtain ⟨hn, ht, htp, hpp, hok⟩ := checkSetStream_eq_some.1 hg
        obtain ⟨h1, h2, h3, h4, h5, h6⟩ := setStreamNumbersOk_iff.1 hok
        have hn' := streamOf_eq_some.1 hn
        have ht' := transformOf_le ht
        have htp' := takePolicyOf_le htp
        have hpp' := poolPolicyOf_le hpp
        omega
    exact steering_refused hr rfl rfl (by decide) (cmdSetStream_badArg hc _)
  intro n a t1 t2 t3 f s hr hn hb hl1 hl2 hw1 hw2 hw3 hs1 hs2 hs3 ht1 ht2 ht3 htag htop
  have hc : checkSetStream a = some ⟨n, t1, t2, t3⟩ :=
    checkSetStream_eq_some.2 ⟨streamOf_eq_some.2 hn, ht1, ht2, ht3,
      setStreamNumbersOk_iff.2 ⟨hb, ⟨hl1, hl2⟩, ⟨⟨hw1, hw2⟩, hw3⟩, ⟨⟨hs1, hs2⟩, hs3⟩, htag, htop⟩⟩
  have hcmd := cmdSetStream_checked hc (shiftFrame ([0x10] ++ setStreamBytes a ++ f.extra) s)
  refine ⟨fun hact => ?_, fun hinact => ⟨fun hmeets => ?_, fun hap hpg => ?_⟩⟩
  · refine steering_refused hr rfl rfl (code := .badState) (by decide) (hcmd.trans (if_pos ?_))
    exact (Stream.active_iff _).2 hact
  all_goals
    have hna : ¬ (s.stream n).active = true := by
      rw [Stream.active_iff]
      rcases hinact with e | e <;> simp [e]
    replace hcmd := hcmd.trans (if_neg hna)
  · refine steering_refused hr rfl rfl (code := .overlap) (by decide) (hcmd.trans (if_pos ?_))
    exact apertureOverlaps_of_meets (s := s) hmeets
  · refine steering_rewritten hr rfl rfl (hcmd.trans (if_neg ?_))
    rw [Bool.not_eq_true]
    exact apertureOverlaps_eq_false.2 ⟨hap, hpg⟩

/-! ## CLEAR-STREAM (R86) -/

/-- Settles O12: the record that is left is the blank one of R2 and R4 with the counters of the old one. -/
theorem clearStreamErasesTheRecord : Obligations.ClearStreamErasesTheRecord := by
  refine ⟨fun b f s hr hb => ?_, fun n b f s hr hb => ?_⟩
  · refine steering_refused hr rfl rfl (code := .badArg) (by decide) ?_
    unfold cmdClearStream
    rw [streamOf_eq_none hb]
  have hcmd : ∀ u : State, cmdClearStream b u =
      if (u.stream n).state == .off && (u.stream n).ring.isEmpty then Answer.done (u.modStream n Stream.cleared)
      else Answer.refuse .badState u := fun u => by
    unfold cmdClearStream
    rw [streamOf_eq_some.2 hb]
  refine ⟨fun hbad => ?_, fun hoff hring => ?_⟩
  · refine steering_refused hr rfl rfl (code := .badState) (by decide) ((hcmd _).trans (if_neg ?_))
    change ¬ ((s.stream n).state == .off && (s.stream n).ring.isEmpty) = true
    simpa [imp_iff_not_or] using hbad
  · have htaken : ((s.stream n).state == .off && (s.stream n).ring.isEmpty) = true := by simp [hoff, hring]
    obtain ⟨t, u, he, hret, hfr, hst, hrest⟩ := steering_rewritten (i := .clearStream b f) (f := Stream.cleared) hr rfl rfl
      ((hcmd _).trans (if_pos htaken))
    refine ⟨t, u, he, hret, hfr, fun x => ?_, ?_, hrest⟩
    · rw [State.slot, hst]
      cases x <;> rfl
    · rw [State.slot, State.slot, hst]
      rfl

/-! ## SET-CONSUMER (R8, R9, R10) -/

theorem cmdSetConsumer_checked {a : SetConsumerArgs} {n : StreamId} {x : SlotId} {on : Bool}
    (h : checkSetConsumer a = some (n, x, on)) (s : State) :
    cmdSetConsumer a s =
      if (s.stream n).state != .off then Answer.refuse .badState s
      else if !on then Answer.done (s.modSlot n x Slot.disabled)
      else if apertureOverlaps s (setConsumerRange a) n (.slot x) then Answer.refuse .overlap s
      else Answer.done (s.modSlot n x fun sl => sl.configured a) := by
  unfold cmdSetConsumer
  rw [h]

/-- What SET-CONSUMER leaves when it is taken: one slot of one stream rewritten. -/
theorem steering_slot_rewritten {i : Instr} {bytes : List Byte} {bits : List Bool} {command : State → Answer} {s : State}
    {n : StreamId} {x : SlotId} {f : Slot → Slot} (hr : PortReady s) (hf : frameOf i = some (bytes, bits))
    (he : exec i s = .next (steeringFrameEnd bytes command s))
    (hc : command (shiftFrame bytes s) = Answer.done ((shiftFrame bytes s).modSlot n x f)) :
    ∃ t u, exec i s = .next u ∧ Retested t u ∧ Framed i [0x00] s t ∧ t.slot n x = f (s.slot n x)
      ∧ StreamRewritten n ((s.stream n).modSlot x fun _ => t.slot n x) s t := by
  obtain ⟨t, u, h1, h2, h3, hst, hrest⟩ := steering_rewritten (n := n) (f := fun st => st.modSlot x f) hr hf he hc
  have hx : t.slot n x = f (s.slot n x) := by
    rw [State.slot, hst, Stream.modSlot_slot_same]
    rfl
  refine ⟨t, u, h1, h2, h3, hx, ?_, hrest⟩
  rw [hst, hx]
  cases x <;> rfl

/-- Settles O13, for an enable byte out of range, on and off. -/
theorem setConsumerDecides : Obligations.SetConsumerDecides := by
  refine ⟨fun a f s hr hbad => ?_, fun n x a f s hr hn hx => ⟨?_, ?_⟩⟩
  · have hc : checkSetConsumer a = none := by
      cases hg : checkSetConsumer a with
      | none => rfl
      | some g =>
        obtain ⟨n, x, on⟩ := g
        obtain ⟨hn, hx, hv, hok⟩ := checkSetConsumer_eq_some.1 hg
        have hn' := streamOf_eq_some.1 hn
        have hx' := slotOf_le hx
        have hv' := flagByte_le on
        rw [← flagOf_eq_some hv] at hv'
        rcases hbad with h | h | h | ⟨hen, h⟩
        · omega
        · omega
        · omega
        · rw [hen] at hv
          cases hv
          have := setConsumerNumbersOk_iff.1 (hok rfl)
          omega
    refine steering_refused hr rfl rfl (code := .badArg) (by decide) ?_
    unfold cmdSetConsumer
    rw [hc]
  · intro hen htag hb hl1 hl2 hw1 hw2 hw3 hcl hcb1 hcb2 htop
    have hc : checkSetConsumer a = some (n, x, true) :=
      checkSetConsumer_eq_some.2 ⟨streamOf_eq_some.2 hn, hx ▸ slotOf_slotByte x, by rw [hen]; rfl, fun _ =>
        setConsumerNumbersOk_iff.2 ⟨htag, hb, ⟨hl1, hl2⟩, ⟨⟨hw1, hw2⟩, hw3⟩, hcl, hcb1, hcb2, htop⟩⟩
    have hcmd := cmdSetConsumer_checked hc (shiftFrame ([0x12] ++ setConsumerBytes a ++ f.extra) s)
    refine ⟨fun hst => ?_, fun hoff => ?_⟩
    · exact steering_refused hr rfl rfl (code := .badState) (by decide) (hcmd.trans (if_pos (bne_iff_ne.2 hst)))
    replace hcmd := (hcmd.trans (if_neg fun h => bne_iff_ne.1 h hoff)).trans (if_neg (by simp))
    refine ⟨fun hmeets => ?_, fun hap hpg => ?_⟩
    · refine steering_refused hr rfl rfl (code := .overlap) (by decide) (hcmd.trans (if_pos ?_))
      exact apertureOverlaps_of_meets (s := s) hmeets
    · refine steering_slot_rewritten (f := fun sl => sl.configured a) hr rfl rfl (hcmd.trans (if_neg ?_))
      rw [Bool.not_eq_true]
      exact apertureOverlaps_eq_false.2 ⟨hap, hpg⟩
  · intro hen
    have hc : checkSetConsumer a = some (n, x, false) :=
      checkSetConsumer_eq_some.2 ⟨streamOf_eq_some.2 hn, hx ▸ slotOf_slotByte x, by rw [hen]; rfl, fun h => by cases h⟩
    have hcmd := cmdSetConsumer_checked hc (shiftFrame ([0x12] ++ setConsumerBytes a ++ f.extra) s)
    refine ⟨fun hst => ?_, fun hoff => ?_⟩
    · exact steering_refused hr rfl rfl (code := .badState) (by decide) (hcmd.trans (if_pos (bne_iff_ne.2 hst)))
    · exact steering_slot_rewritten (f := Slot.disabled) hr rfl rfl
        ((hcmd.trans (if_neg fun h => bne_iff_ne.1 h hoff)).trans (if_pos rfl))

/-! ## FREEZE (R11) -/

section Freeze

variable {b target : Byte} {n : StreamId} {v : Bool} (hn : streamOf b = some n) (s : State)
include hn

theorem cmdFreeze_undefined {ft : FreezeTarget} (ht : freezeTargetOf target = some ft)
    (hs : (s.stream n).state = .undefined) : cmdFreeze b target (flagByte v) s = Answer.refuse .badState s := by
  unfold cmdFreeze
  rw [hn, ht, flagOf_flagByte]
  exact if_pos (beq_iff_eq.2 hs)

theorem cmdFreeze_producer (ht : freezeTargetOf target = some .producer) (hs : (s.stream n).state ≠ .undefined) :
    cmdFreeze b target (flagByte v) s = Answer.done (s.modStream n fun st => { st with freeze := v }) := by
  unfold cmdFreeze
  rw [hn, ht, flagOf_flagByte]
  exact if_neg fun h => hs (beq_iff_eq.1 h)

theorem cmdFreeze_slot {x : SlotId} (ht : freezeTargetOf target = some (.slot x)) (hs : (s.stream n).state ≠ .undefined) :
    cmdFreeze b target (flagByte v) s = Answer.done (s.modSlot n x fun sl => { sl with freeze := v }) := by
  unfold cmdFreeze
  rw [hn, ht, flagOf_flagByte]
  exact if_neg fun h => hs (beq_iff_eq.1 h)

end Freeze

theorem cmdFreeze_badArg {b target on : Byte} (h : 7 < b.toNat ∨ 2 < target.toNat ∨ 1 < on.toNat) (s : State) :
    cmdFreeze b target on s = Answer.refuse .badArg s := by
  unfold cmdFreeze
  split
  · next n ft v hb ht hv =>
    have hb' := streamOf_eq_some.1 hb
    have ht' := freezeTargetOf_le ht
    have hv' := flagByte_le v
    rw [← flagOf_eq_some hv] at hv'
    omega
  · rfl

/-- Settles O14, by the target of the command. -/
theorem freezeWritesOneFlag : Obligations.FreezeWritesOneFlag := by
  have exec_eq : ∀ {b target on : Byte} {f : FrameTail} {s : State}, PortReady s →
      exec (.freeze b target on f) s =
        .next (answerFrame ([0x32, b, target, on] ++ f.extra) (cmdFreeze b target on) s) := fun hr =>
    congrArg Host.Outcome.next (frameEnd_ready hr)
  refine ⟨fun b target on f s hr hbad => ?_, fun n b target v f s hr hn => ?_⟩
  · exact refused_of (code := .badArg) rfl (exec_eq hr) (cmdFreeze_badArg hbad _)
  replace hn := streamOf_eq_some.2 hn
  refine ⟨fun ht hu => ?_, fun hd => ⟨fun ht => ?_, fun x hx => ?_⟩⟩
  · obtain ⟨ft, hft⟩ := freezeTargetOf_isSome ht
    exact refused_of (code := .badState) rfl (exec_eq hr) (cmdFreeze_undefined hn _ hft hu)
  · exact ⟨_, exec_eq hr, answered_rewritten rfl (cmdFreeze_producer hn _ (ht ▸ rfl) hd)⟩
  · obtain ⟨hfr, hst, hrest⟩ := answered_rewritten (f := fun st => st.modSlot x fun sl => { sl with freeze := v })
      (i := .freeze b target (flagByte v) f) rfl (cmdFreeze_slot hn _ (hx ▸ freezeTargetOf_slot x) hd)
    refine ⟨_, exec_eq hr, hfr, hst.trans ?_, hrest⟩
    cases x <;> rfl

end Sys2Proof.Machine

/-! PROOFS. Producer requests (O37), slot reads (O38), the injectivity of the transforms (O41) and that pieces stay inside
their page (O40). -/

namespace Sys2Proof.Machine

/-! ## BLANK beats (R14) -/

theorem extract_byte (v : Word32) (k : Nat) : v.extractLsb' k 8 = BitVec.ofNat 8 (v.toNat / 2 ^ k) := by
  apply BitVec.eq_of_toNat_eq
  simp [Nat.shiftRight_eq_div_pow]

theorem fillBeat_blankBeat (v : Word32) : BlankBeat v (fillBeat v) := by
  unfold BlankBeat fillBeat bigEndian
  simp [Vector.toList_ofFn, List.ofFn_succ, List.range_succ, extract_byte, Fin.val_succ]

/-! ## An allowed request (R106 to R109) -/

/-- A request that is inside an aperture of a RUNNING stream, aligned and allowed is decided by R108 or R109. -/
theorem steer_allowed {s : State} {p : PortId} {r : Request} {a : Aperture} (hr : RangesLaw s)
    (htop : r.addr.toNat + 16 * (r.len.toNat + 1) - 1 ≤ 0xFFFFFFFFFF) (ha : a ∈ definedApertures s)
    (hi : (reqRange r).inside a.range = true) (hrun : (s.stream a.stream).state = .running)
    (hal : r.addr.toNat % 16 = 0) (hrole : roleAllows (s.stream a.stream) a.role r = true) :
    steer s p r = steerAllowed s r a := by
  rw [steer_inside hr (Range.pastTop_eq_false.2 htop) ha hi]
  unfold steerInside
  dsimp only
  rw [hrun]
  dsimp only
  rw [if_neg (by simp [hal]), if_pos hrole]

section Allowed

variable {s : State} {r : Request} {a : Aperture}

theorem steerAllowed_starved_write (ha : a.role = .producer) (hs : (s.stream a.stream).starved = true)
    (hk : r.kind = .write) : steerAllowed s r a = sunkDecision := by
  simp [steerAllowed, ha, hs, hk]

theorem steerAllowed_starved_read (ha : a.role = .producer) (hs : (s.stream a.stream).starved = true)
    (hk : r.kind = .read) : steerAllowed s r a = blankDecision (s.stream a.stream) r := by
  simp [steerAllowed, ha, hs, hk]

theorem steerAllowed_fill {q : PageId} (ha : a.role = .producer) (hs : (s.stream a.stream).starved = false)
    (hq : (s.stream a.stream).fillPage = some q) :
    steerAllowed s r a =
      apertureDecision ⟨a.stream, .producer, q⟩ (producerAddress (s.stream a.stream) (s.page q))
        (s.stream a.stream).lineLength.toNat (r.addr.toNat - a.range.base) r := by
  unfold steerAllowed
  rw [ha]
  dsimp only
  rw [hs, hq]

theorem steerAllowed_slot_blank {x : SlotId} (ha : a.role = .slot x) (hh : ((s.stream a.stream).slot x).held = none) :
    steerAllowed s r a = blankDecision (s.stream a.stream) r := by
  unfold steerAllowed
  rw [ha]
  dsimp only
  rw [hh]

theorem steerAllowed_slot_held {x : SlotId} {q : PageId} (ha : a.role = .slot x)
    (hh : ((s.stream a.stream).slot x).held = some q) :
    steerAllowed s r a =
      apertureDecision ⟨a.stream, .slot x, q⟩
        (slotAddress (s.stream a.stream) ((s.stream a.stream).slot x) (s.page q))
        ((s.stream a.stream).slot x).lineLength.toNat (r.addr.toNat - a.range.base) r := by
  unfold steerAllowed
  rw [ha]
  dsimp only
  rw [hh]

end Allowed

theorem blankDecision_answered (st : Stream) (r : Request) :
    ∃ b, BlankBeat st.fill b ∧ AnsweredWith (blankDecision st r) .blank (List.replicate (r.len.toNat + 1) b) :=
  ⟨fillBeat st.fill, fillBeat_blankBeat _, rfl, rfl, rfl, rfl, rfl⟩

theorem apertureDecision_directed (t : Target) (address : Nat → Nat) (lineLength o : Nat) (r : Request) :
    DirectedTo (apertureDecision t address lineLength o r) t := by
  obtain ⟨h1, h2⟩ := cutLine_length lineLength o (reqBeats r)
  refine ⟨rfl, rfl, rfl, rfl, ?_, ?_⟩ <;> simpa only [apertureDecision, piecesOf_length]

/-- Addresses and lengths of the pieces that R111 cuts an APERTURE request into. -/
theorem apertureDecision_pieces (t : Target) {address : Nat → Nat} {addr : Nat → Addr}
    (h : ∀ k, addr k = BitVec.ofNat 40 (address k)) (lineLength o : Nat) (r : Request) :
    (apertureDecision t address lineLength o r).pieces.map (fun pc => (pc.addr, pc.length)) =
      if o % lineLength + 16 * (r.len.toNat + 1) ≤ lineLength then [(addr o, r.len.toNat + 1)]
      else
        [(addr o, (lineLength - o % lineLength) / 16),
         (addr (o + (lineLength - o % lineLength)), r.len.toNat + 1 - (lineLength - o % lineLength) / 16)] := by
  simp only [apertureDecision, piecesOf_map, cutLine, reqBeats, h]
  exact apply_ite (List.map _) _ _ _

/-- Settles O37, for a starved stream and for one with a fill page. -/
theorem producerRequest : Obligations.ProducerRequest := by
  intro s p r a st o line addr hr htop ha hi hrole hst hrun hal htag ho
  subst hst
  have hallow : roleAllows (s.stream a.stream) a.role r = true := by
    rw [hrole]
    exact beq_iff_eq.2 htag
  have hsteer := steer_allowed (p := p) hr htop ha hi hrun hal hallow
  refine ⟨fun hstarved => ⟨fun hk => ?_, fun hk => ?_⟩, fun q hstarved hq hline haddr => ?_⟩
  · rw [hsteer, steerAllowed_starved_write hrole hstarved hk]
    exact ⟨rfl, rfl, rfl, rfl, rfl⟩
  · rw [hsteer, steerAllowed_starved_read hrole hstarved hk]
    exact blankDecision_answered _ r
  · have hbase : a.range.base = (s.stream a.stream).base.toNat := by
      obtain ⟨_, hprod, _⟩ := mem_definedApertures ha
      rw [hprod hrole]
      rfl
    rw [hsteer, steerAllowed_fill hrole hstarved hq, hbase, ← ho]
    refine ⟨apertureDecision_directed _ _ _ _ r, apertureDecision_pieces _ (fun k => ?_) _ _ r⟩
    rw [haddr k, hline]
    unfold producerAddress pageLine
    cases (s.stream a.stream).transform <;> cases (s.stream a.stream).parity <;> rfl

/-- Settles O38, for a slot that holds nothing and for one that holds a page. -/
theorem slotRequest : Obligations.SlotRequest := by
  intro s p r a x st sl o addr hr htop ha hi hrole hst hrun hsl hal htag hk ho
  subst hsl
  subst hst
  have hallow : roleAllows (s.stream a.stream) a.role r = true := by
    rw [hrole]
    simp [roleAllows, htag, hk]
  have hsteer := steer_allowed (p := p) hr htop ha hi hrun hal hallow
  refine ⟨fun hh => ?_, fun q hh haddr => ?_⟩
  · rw [hsteer, steerAllowed_slot_blank hrole hh]
    exact blankDecision_answered _ r
  · have hbase : a.range.base = ((s.stream a.stream).slot x).base.toNat := by
      obtain ⟨_, _, hslot⟩ := mem_definedApertures ha
      rw [(hslot x hrole).1]
      rfl
    rw [hsteer, steerAllowed_slot_held hrole hh, hbase, ← ho]
    exact ⟨apertureDecision_directed _ _ _ _ r, apertureDecision_pieces _ haddr _ _ r⟩

/-! ## Lines of the page image (R12, R13, R16) -/

/-- An aperture line lands on a line of the page image (R12). -/
theorem pageLine_lt {st : Stream} {l : Nat} (h : l < st.lines.toNat) :
    pageLine st.transform st.lines.toNat l st.parity < st.pageLines := by
  unfold pageLine Stream.pageLines
  cases st.transform <;> dsimp only
  · exact h
  · omega
  · split <;> omega

/-- No two lines of an aperture, in WEAVE of either field, land on one page line (R12). -/
theorem pageLine_injective {t : Transform} {lines l m : Nat} {b c : Bool} (hl : l < lines) (hm : m < lines)
    (h : pageLine t lines l b = pageLine t lines m c) : l = m ∧ (t = .weave → b = c) := by
  unfold pageLine at h
  cases t <;> dsimp only at h
  · exact ⟨h, fun e => by cases e⟩
  · exact ⟨by omega, fun e => by cases e⟩
  · cases b <;> cases c <;> simp at h ⊢ <;> omega

/-- Line and column of a byte are determined by its place, with lines no longer than the stride. -/
theorem line_column_unique {stride l m x y : Nat} (hx : x < stride) (hy : y < stride)
    (h : l * stride + x = m * stride + y) : l = m ∧ x = y := by
  have h1 := congrArg (· % stride) h
  have h2 := congrArg (· / stride) h
  simp only [Nat.mul_comm _ stride] at h1 h2
  rw [Nat.mul_add_div (by omega), Nat.mul_add_div (by omega), Nat.div_eq_of_lt hx, Nat.div_eq_of_lt hy] at h2
  simp only [Nat.mul_add_mod, Nat.mod_eq_of_lt hx, Nat.mod_eq_of_lt hy] at h1
  omega

/-- Settles O41: a place in the page gives its line and column, and the page line gives the aperture line and the field. -/
theorem transformsAreInjective : Obligations.TransformsAreInjective := by
  intro st pg b c o q hpos hstride ho hq h
  have hline : ∀ k, k < st.lines.toNat * st.lineLength.toNat → k / st.lineLength.toNat < st.lines.toNat := fun k hk =>
    Nat.div_lt_of_lt_mul (Nat.mul_comm _ _ ▸ hk)
  have hcol : ∀ k, k % st.lineLength.toNat < st.stride.toNat := fun k =>
    (Nat.mod_lt k hpos).trans_le hstride
  simp only [producerAddress, Nat.add_assoc, Nat.add_left_cancel_iff] at h
  obtain ⟨hl, hc⟩ := line_column_unique (hcol o) (hcol q) h
  obtain ⟨hdiv, hweave⟩ := pageLine_injective (hline o ho) (hline q hq) hl
  refine ⟨?_, hweave⟩
  rw [← Nat.div_add_mod o st.lineLength.toNat, hdiv, hc, Nat.div_add_mod]

/-! ## Pieces stay inside their page (R16) -/

/-- A piece of a cut lies in one line and in the request, 16-byte aligned, with 1 to 16 beats (R111). -/
theorem mem_cutLine {lineLength o beats : Nat} (hl : 256 ≤ lineLength) (hl16 : lineLength % 16 = 0) (ho : o % 16 = 0)
    (hb : 1 ≤ beats) (hb16 : beats ≤ 16) {c : Nat × Nat} (hc : c ∈ cutLine lineLength o beats) :
    c.1 % lineLength + 16 * c.2 ≤ lineLength ∧ c.1 + 16 * c.2 ≤ o + 16 * beats ∧ c.1 % 16 = 0 ∧ 1 ≤ c.2 ∧ c.2 ≤ 16 := by
  have hm : o % lineLength % 16 = 0 := by rw [Nat.mod_mod_of_dvd o (Nat.dvd_of_mod_eq_zero hl16), ho]
  have hlt : o % lineLength < lineLength := Nat.mod_lt o (by omega)
  have hnext : (o + (lineLength - o % lineLength)) % lineLength = 0 := by
    have : o + (lineLength - o % lineLength) = lineLength * (o / lineLength + 1) := by
      have := Nat.div_add_mod o lineLength
      rw [Nat.mul_add]
      omega
    rw [this, Nat.mul_mod_right]
  unfold cutLine at hc
  dsimp only at hc
  split at hc
  · rw [List.mem_singleton] at hc
    subst hc
    dsimp only
    omega
  · rcases List.mem_pair.1 hc with rfl | rfl <;> dsimp only
    · omega
    · rw [hnext]
      omega

theorem mem_piecesOf {address : Nat → Nat} {l : List (Nat × Nat)} {data : List WriteBeat} {pc : Piece}
    (h : pc ∈ piecesOf address l data) : ∃ c ∈ l, pc.addr = BitVec.ofNat 40 (address c.1) ∧ pc.length = c.2 := by
  have hm : (pc.addr, pc.length) ∈ (piecesOf address l data).map fun pc => (pc.addr, pc.length) :=
    List.mem_map_of_mem h
  rw [piecesOf_map, List.mem_map] at hm
  obtain ⟨c, hc, e⟩ := hm
  rw [Prod.mk.injEq] at e
  exact ⟨c, hc, e.1.symm, e.2.symm⟩

/-- Where a directed request comes from: a RUNNING stream's aperture that it lies in, aligned, and the page that R108 or R109
names. -/
theorem steer_target {s : State} {p : PortId} {r : Request} {t : Target} (h : (steer s p r).target = some t) :
    ∃ a ∈ definedApertures s, (reqRange r).inside a.range = true ∧ (s.stream a.stream).state = .running
      ∧ r.addr.toNat % 16 = 0 ∧ steer s p r = steerAllowed s r a := by
  unfold steer at h ⊢
  split at h
  · cases h
  · next h1 =>
    split at h
    · split at h <;> cases h
    · next h2 =>
      rw [if_neg h1, if_neg h2]
      split at h
      · next a hf =>
        have hm := List.mem_of_find?_eq_some hf
        unfold touchedApertures at hm
        unfold steerInside at h ⊢
        dsimp only at h ⊢
        split at h
        · cases h
        · cases h
        · cases h
        · next hrun =>
          split at h
          · cases h
          · next hal =>
            split at h
            · next hrole =>
              refine ⟨a, (List.mem_filter.1 hm).1, by simpa using List.find?_some hf, hrun, by simpa using hal, ?_⟩
              rw [if_neg hal, if_pos hrole]
            · cases h
      · cases h

theorem steerAllowed_target {s : State} {r : Request} {a : Aperture} {t : Target}
    (h : (steerAllowed s r a).target = some t) :
    (a.role = .producer ∧ (s.stream a.stream).fillPage = some t.page
        ∧ steerAllowed s r a =
          apertureDecision t (producerAddress (s.stream a.stream) (s.page t.page))
            (s.stream a.stream).lineLength.toNat (r.addr.toNat - a.range.base) r)
      ∨ ∃ x, a.role = .slot x ∧ ((s.stream a.stream).slot x).held = some t.page
        ∧ steerAllowed s r a =
          apertureDecision t (slotAddress (s.stream a.stream) ((s.stream a.stream).slot x) (s.page t.page))
            ((s.stream a.stream).slot x).lineLength.toNat (r.addr.toNat - a.range.base) r := by
  cases hrole : a.role with
  | producer =>
    cases hs : (s.stream a.stream).starved with
    | true =>
      cases hk : r.kind with
      | read =>
        rw [steerAllowed_starved_read hrole hs hk] at h
        cases h
      | write =>
        rw [steerAllowed_starved_write hrole hs hk] at h
        cases h
    | false =>
      cases hq : (s.stream a.stream).fillPage with
      | none =>
        unfold steerAllowed at h
        rw [hrole] at h
        dsimp only at h
        rw [hs, hq] at h
        cases hk : r.kind <;> rw [hk] at h <;> cases h
      | some q =>
        rw [steerAllowed_fill hrole hs hq] at h ⊢
        cases h
        exact Or.inl ⟨rfl, rfl, rfl⟩
  | slot x =>
    cases hq : ((s.stream a.stream).slot x).held with
    | none =>
      rw [steerAllowed_slot_blank hrole hq] at h
      cases h
    | some q =>
      rw [steerAllowed_slot_held hrole hq] at h ⊢
      cases h
      exact Or.inr ⟨x, rfl, hq, rfl⟩

/-- What lies in a line of a page image, within the stride, lies in the page (R15, R16). -/
theorem line_inside {base size stride lines l col n : Nat} (hl : l < lines) (hcol : col + n ≤ stride)
    (hsize : stride * lines ≤ size) : base + l * stride + col + n ≤ base + size := by
  have h1 : (l + 1) * stride ≤ lines * stride := Nat.mul_le_mul_right stride hl
  rw [Nat.add_mul, Nat.one_mul] at h1
  rw [Nat.mul_comm] at hsize
  omega

/-- Where the lines of an aperture lie in a page: line l of them on line `line l` of a page image of `lines` lines, from byte
`col` on (R12, R13). -/
structure PageWindow where
  base : Nat
  size : Nat
  stride : Nat
  lines : Nat
  windowLines : Nat
  lineLength : Nat
  col : Nat
  line : Nat → Nat

/-- The page address of the byte at offset k of the aperture. -/
def PageWindow.address (w : PageWindow) (k : Nat) : Nat :=
  w.base + w.line (k / w.lineLength) * w.stride + (w.col + k % w.lineLength)

/-- The window fits in the page image and the image in the page, all of it on 16-byte boundaries (R1, R3, R15, R22). -/
structure PageWindow.Fits (w : PageWindow) : Prop where
  line_lt : ∀ l, l < w.windowLines → w.line l < w.lines
  col_le : w.col + w.lineLength ≤ w.stride
  image_le : w.stride * w.lines ≤ w.size
  top : w.base + w.size ≤ 2 ^ 40
  length : 256 ≤ w.lineLength
  length16 : w.lineLength % 16 = 0
  base16 : w.base % 16 = 0
  stride16 : w.stride % 16 = 0
  col16 : w.col % 16 = 0

/-- The window of a producer aperture is the whole page image. -/
def producerWindow (st : Stream) (pg : Page) : PageWindow :=
  { base := pg.base.toNat, size := pg.size.toNat, stride := st.stride.toNat, lines := st.pageLines,
    windowLines := st.lines.toNat, lineLength := st.lineLength.toNat, col := 0,
    line := fun l => pageLine st.transform st.lines.toNat l st.parity }

/-- The window of a slot is its crop window. -/
def slotWindow (st : Stream) (sl : Slot) (pg : Page) : PageWindow :=
  { base := pg.base.toNat, size := pg.size.toNat, stride := st.stride.toNat, lines := st.pageLines,
    windowLines := sl.lines.toNat, lineLength := sl.lineLength.toNat, col := sl.cropByte.toNat,
    line := fun l => sl.cropLine.toNat + l }

theorem producerAddress_eq (st : Stream) (pg : Page) : producerAddress st pg = (producerWindow st pg).address := by
  funext k
  simp [producerAddress, PageWindow.address, producerWindow]

theorem slotAddress_eq (st : Stream) (sl : Slot) (pg : Page) : slotAddress st sl pg = (slotWindow st sl pg).address := by
  funext k
  simp [slotAddress, PageWindow.address, slotWindow, Nat.add_assoc]

/-- Through a window that fits, each piece of a cut lies inside the page and is aligned. -/
theorem piece_inside {w : PageWindow} (hw : w.Fits) {o beats : Nat} {data : List WriteBeat} {pc : Piece}
    (ho : o % 16 = 0) (hb : 1 ≤ beats) (hb16 : beats ≤ 16) (hin : o + 16 * beats ≤ w.windowLines * w.lineLength)
    (hpc : pc ∈ piecesOf w.address (cutLine w.lineLength o beats) data) :
    w.base ≤ pc.addr.toNat ∧ pc.addr.toNat + 16 * pc.length ≤ w.base + w.size ∧ pc.addr.toNat % 16 = 0
      ∧ 1 ≤ pc.length ∧ pc.length ≤ 16 := by
  obtain ⟨hline, hcol, himage, htop, hl, hl16, hbase16, hs16, hc16⟩ := hw
  obtain ⟨⟨k, n⟩, hc, ha, hn⟩ := mem_piecesOf hpc
  obtain ⟨h1, h2, h3, h4, h5⟩ := mem_cutLine hl hl16 ho hb hb16 hc
  dsimp only at ha hn h1 h2 h3 h4 h5
  have hk : k / w.lineLength < w.windowLines := Nat.div_lt_of_lt_mul (by rw [Nat.mul_comm]; omega)
  have hlow : w.base ≤ w.address k := by
    unfold PageWindow.address
    omega
  have hend : w.address k + 16 * n ≤ w.base + w.size :=
    line_inside (hline _ hk) (col := w.col + k % w.lineLength) (by omega) himage
  have hmod : w.address k % 16 = 0 := by
    have hm : w.line (k / w.lineLength) * w.stride % 16 = 0 := by rw [Nat.mul_mod, hs16, Nat.mul_zero, Nat.zero_mod]
    have hk16 : k % w.lineLength % 16 = 0 := by rw [Nat.mod_mod_of_dvd k (Nat.dvd_of_mod_eq_zero hl16), h3]
    unfold PageWindow.address
    omega
  have htoNat : pc.addr.toNat = w.address k := by
    rw [ha, BitVec.toNat_ofNat]
    exact Nat.mod_eq_of_lt (by omega)
  rw [htoNat, hn]
  exact ⟨hlow, hend, hmod, h4, h5⟩

theorem Range.inside_iff {a b : Range} : a.inside b = true ↔ b.base ≤ a.base ∧ a.base + a.size ≤ b.base + b.size := by
  simp [Range.inside]

/-- A request range in an aperture that starts on a 4 KiB boundary: its offset is aligned, and it ends inside. -/
theorem request_offset {r : Request} {b : Addr} {size : Nat} (hi : (reqRange r).inside ⟨b.toNat, size⟩ = true)
    (hal : r.addr.toNat % 16 = 0) (hb : b.toNat % 4096 = 0) :
    (r.addr.toNat - b.toNat) % 16 = 0 ∧ r.addr.toNat - b.toNat + 16 * reqBeats r ≤ size := by
  obtain ⟨h1, h2⟩ := Range.inside_iff.1 hi
  simp only [reqRange] at h1 h2
  omega

theorem reqBeats_le (r : Request) : 1 ≤ reqBeats r ∧ reqBeats r ≤ 16 := by
  have := r.len.isLt
  unfold reqBeats
  omega

section Fits

variable {s : State} {n : StreamId} (hconf : ConfigLaw s) (hranges : RangesLaw s) (hring : RingLaw s)
  (hd : (s.stream n).state ≠ .undefined) (hfits : GeometryFits s n) {q : PageId} (hq : q ∈ (s.stream n).ring)
include hconf hranges hring hd hfits hq

theorem producerWindow_fits : (producerWindow (s.stream n) (s.page q)).Fits := by
  obtain ⟨hstreams, _, hpages⟩ := hconf
  obtain ⟨_, _, _, htop, _⟩ := hranges
  obtain ⟨_, hmem, _⟩ := hring
  obtain ⟨_, _, hlen, hstride, _⟩ := hstreams n hd
  obtain ⟨_, hls, hsize, _, _⟩ := hfits
  obtain ⟨⟨hl, _⟩, hl16⟩ := lineLengthOk_iff.1 hlen
  obtain ⟨_, hs16⟩ := strideOk_iff.1 hstride
  obtain ⟨hbase, _⟩ := hpages q ((hmem n q).1 hq).1
  rw [pageAligned_iff] at hbase
  refine ⟨fun l hl => pageLine_lt hl, ?_, hsize q hq, htop q, hl, hl16, ?_, hs16, rfl⟩ <;>
    simp only [producerWindow] <;> omega

theorem slotWindow_fits {x : SlotId} (hen : (s.slot n x).enabled = true) :
    (slotWindow (s.stream n) (s.slot n x) (s.page q)).Fits := by
  obtain ⟨_, hcol, himage, htop, _, _, hb16, hs16, _⟩ := producerWindow_fits hconf hranges hring hd hfits hq
  obtain ⟨_, hslots, _⟩ := hconf
  obtain ⟨_, _, hlen, _, _, hc16, _⟩ := hslots n x hen
  obtain ⟨_, _, _, hcropA, hcropB⟩ := hfits
  obtain ⟨⟨hl, _⟩, hl16⟩ := lineLengthOk_iff.1 hlen
  obtain ⟨hcl, hcb⟩ : CropFits (s.stream n) (s.slot n x) := by
    cases x
    · exact hcropA hen
    · exact hcropB hen
  refine ⟨fun l hl => ?_, ?_, himage, htop, hl, hl16, hb16, hs16, hc16⟩ <;>
    simp only [slotWindow, producerWindow] at * <;> omega

end Fits

/-- Settles O40: a directed request lies in a producer aperture or in an enabled slot's, whose lines R15 keeps within the
stride and within the page. -/
theorem piecesStayInsideTheirPage : Obligations.PiecesStayInsideTheirPage := by
  intro s p r t pc hsafe ht hpc
  obtain ⟨_, _, hconf, hranges, hgeom, ⟨hring, _, hfill, hready, ⟨_, hheld⟩, _, _⟩, _⟩ := hsafe
  obtain ⟨a, ha, hi, hrun, hal, hsteer⟩ := steer_target ht
  obtain ⟨hd, hprod, hslot⟩ := mem_definedApertures ha
  obtain ⟨hbeats, hbeats16⟩ := reqBeats_le r
  have hfits := hgeom a.stream (Or.inl hrun)
  rw [hsteer] at ht hpc
  rcases steerAllowed_target ht with ⟨hrole, hq, e⟩ | ⟨x, hrole, hq, e⟩
  · obtain ⟨_, _, hfillRing⟩ := hfill a.stream
    obtain ⟨hbase, _⟩ := hconf.1 a.stream hd
    rw [hprod hrole] at hi e
    obtain ⟨ho, hin⟩ := request_offset hi hal (pageAligned_iff.1 hbase)
    rw [e, producerAddress_eq] at hpc
    exact piece_inside (producerWindow_fits hconf hranges hring hd hfits (hfillRing _ hq)) ho hbeats hbeats16 hin hpc
  · obtain ⟨_, hreadyRing⟩ := hready a.stream
    obtain ⟨hpage, _⟩ := (hreadyRing _).1 (hheld a.stream x _ hq)
    obtain ⟨hrange, hen⟩ := hslot x hrole
    obtain ⟨_, hslots, _⟩ := id hconf
    obtain ⟨hbase, _⟩ := hslots a.stream x hen
    rw [hrange] at hi e
    obtain ⟨ho, hin⟩ := request_offset hi hal (pageAligned_iff.1 hbase)
    rw [e, slotAddress_eq] at hpc
    exact piece_inside (slotWindow_fits hconf hranges hring hd hfits hpage hen) ho hbeats hbeats16 hin hpc

end Sys2Proof.Machine

/-! PROOFS. The part right after a pin reset is safe (O59), and a safe state that a step takes out of the laws (O58). -/

namespace Sys2Proof.Machine

/-! ## The part right after a pin reset (R2, R4, R20, R121, R133, R137, R142, R149, R160) -/

/-- The laws that read nothing of the transaction table, the ports and the scheduler. -/
def RestLaws (s : State) : Prop :=
  EventQueueLaw s ∧ ConfigLaw s ∧ RangesLaw s ∧ GeometryLaw s ∧ RingLaw s ∧ LifecycleLaw s ∧ FillLaw s ∧ ReadyLaw s
    ∧ HolderLaw s ∧ StageLaw s

theorem RestLaws.congr {s : State} (h : RestLaws s) (entries : Vector Entry 48) (ports : Vector Port 4)
    (pending : List Instr) : RestLaws { s with entries := entries, ports := ports, pending := pending } := h

theorem RestLaws.safe {s : State} (h : RestLaws s) (ha : ArbiterLaw s) (hc : CountLaw s) (ht : TableLaw s)
    (hq : QuiesceLaw s) (hw : WaitingLaw s) : Safe s := by
  obtain ⟨h1, h2, h3, h4, h5, h6, h7, h8, h9, h10⟩ := h
  exact ⟨h1, ha, h2, h3, h4, ⟨h5, h6, h7, h8, h9, h10, hc⟩, ht, hq, hw⟩

theorem reset_slot (n : StreamId) (x : SlotId) : State.reset.slot n x = Slot.blank := by
  rw [State.slot, reset_stream]
  cases x <;> rfl

theorem reset_events : EventQueueLaw State.reset := by
  simp [EventQueueLaw, State.reset]

theorem reset_config : ConfigLaw State.reset := by
  simp [ConfigLaw, reset_stream, reset_slot, reset_page, Stream.blank, Slot.blank, Page.blank]

theorem reset_geometry : GeometryLaw State.reset := by
  simp [GeometryLaw, reset_stream, Stream.blank]

theorem reset_ring : RingLaw State.reset := by
  simp [RingLaw, reset_stream, reset_page, Stream.blank, Page.blank]

theorem reset_lifecycle : LifecycleLaw State.reset := by
  simp [LifecycleLaw, reset_stream, Stream.blank, Slot.blank]

theorem reset_fill : FillLaw State.reset := by
  simp [FillLaw, reset_stream, Stream.blank]

theorem reset_ready : ReadyLaw State.reset := by
  simp [ReadyLaw, reset_stream, Stream.blank]

theorem reset_holders : HolderLaw State.reset := by
  refine ⟨fun p x => ?_, ?_⟩
  · cases x <;> simp [reset_page, Page.holds, Page.blank]
  · simp [reset_slot, Slot.blank]

theorem reset_stages : StageLaw State.reset := by
  simp [StageLaw, reset_page, Page.blank]

theorem reset_rest : RestLaws State.reset :=
  ⟨reset_events, reset_config, reset_ranges, reset_geometry, reset_ring, reset_lifecycle, reset_fill, reset_ready,
    reset_holders, reset_stages⟩

theorem reset_arbiter : ArbiterLaw State.reset := by
  refine ⟨fun p => ?_, by decide, Or.inl rfl⟩
  simp [reset_port, Port.blank]

/-- Without an entry that has a page, no count is raised. -/
theorem inFlightOn_eq_zero {s : State} (h : ∀ e, (s.entry e).target = none) (k : Access) (p : PageId) :
    inFlightOn s k p = 0 := by
  simp [inFlightOn, h]

theorem reset_counts : CountLaw State.reset := by
  have h := inFlightOn_eq_zero (s := State.reset) fun e => by rw [reset_entry]; rfl
  intro p
  rw [h, h, reset_page]
  exact ⟨rfl, rfl⟩

theorem blank_entryLaw : EntryLaw Entry.blank := by simp [EntryLaw, Entry.blank]

theorem reset_table : TableLaw State.reset := by
  refine ⟨fun e => by rw [reset_entry]; exact blank_entryLaw, fun p => ?_⟩
  simp [reset_port, reset_entry, namesQueued, Port.blank, Entry.blank]

theorem reset_quiesce : QuiesceLaw State.reset := by
  have hd : State.reset.datapath = .normal := rfl
  simp [QuiesceLaw, hd, reset_entry, Entry.holdsQuiesce, Entry.blank]

theorem waitingLaw_of_quiet {s : State} (h : s.links = Links.quiet) : WaitingLaw s := by
  intro _ p r hw
  have hn : Links.quiet.waiting.get p = none := replicate_get _ p
  rw [h, hn] at hw
  cases hw

/-- Settles O59, law by law. -/
theorem resetIsSafe : Obligations.ResetIsSafe := by
  refine ⟨reset_rest.safe reset_arbiter reset_counts reset_table reset_quiesce (waitingLaw_of_quiet rfl), ?_, ?_⟩
  · simp [OrderLaw, reset_port, Port.blank]
  · simp [FramesInOrder, Pending, reset_stream, Stream.blank]

/-! ## A safe state that a step takes out of the laws -/

/-- An entry whose response DONE is prepared while its piece is still outstanding. `EntryLaw` does not rule it out. -/
def earlyEntry : Entry :=
  { Entry.blank with
    state := .doneWaiting
    pieces := [{ addr := 0, length := 1, data := [], status := .outstanding, readData := [] }]
    prepared := some { status := .done, reason := none, data := [] } }

/-- The part after reset with that entry presented at port 0, and its delivery about to happen. -/
def earlyState : State :=
  { State.reset with
    entries := setRow State.reset.entries 0 earlyEntry
    ports := setRow State.reset.ports 0 { Port.blank with order := [0], presented := some 0 }
    pending := [.delivery 0] }

theorem early_entry (e : EntryId) : earlyState.entry e = if e = 0 then earlyEntry else Entry.blank := by
  show (setRow State.reset.entries 0 earlyEntry).get e = _
  rw [setRow_get]
  congr 1
  exact reset_entry e

theorem early_port (p : PortId) :
    earlyState.port p = if p = 0 then { Port.blank with order := [0], presented := some 0 } else Port.blank := by
  show (setRow State.reset.ports 0 { Port.blank with order := [0], presented := some 0 }).get p = _
  rw [setRow_get]
  congr 1
  exact reset_port p

theorem early_queue (p : PortId) : (earlyState.port p).queue = [] := by
  rw [early_port]
  split <;> rfl

theorem early_namesQueued (p : PortId) (r : PieceRef) : ¬ namesQueued earlyState p r := by
  rintro ⟨_, hs, hp⟩
  rw [early_entry] at hs hp
  split at hp
  · obtain ⟨e, second⟩ := r
    cases second <;> simp [Entry.piece, earlyEntry] at hp
  · next h => exact hs (by simp [h, Entry.blank])

theorem early_table : TableLaw earlyState := by
  refine ⟨fun e => ?_, fun p => ⟨?_, ⟨?_, ?_, ?_⟩, ?_⟩⟩
  · rw [early_entry]
    split
    · simp [EntryLaw, earlyEntry]
    · exact blank_entryLaw
  · simp only [early_port, early_entry]
    by_cases hp : p = 0
    · subst hp
      refine ⟨by simp, by simp, fun e => ?_⟩
      by_cases he : e = 0 <;> simp [he, earlyEntry, Entry.blank]
    · refine ⟨by simp [hp, Port.blank], by simp [hp, Port.blank], fun e => ?_⟩
      by_cases he : e = 0 <;> simp [he, hp, earlyEntry, Entry.blank, Port.blank, Ne.symm hp]
  · simp [early_queue]
  · simp [early_queue]
  · simp [early_queue, early_namesQueued]
  · intro e h
    rw [early_port] at h ⊢
    split at h
    · next hp =>
      cases h
      exact ⟨by simp [hp], by rw [early_entry]; rfl⟩
    · cases h

theorem early_safe : Safe earlyState := by
  refine (reset_rest.congr _ _ _).safe ⟨fun p => ?_, by decide, Or.inl rfl⟩ ?_ early_table ?_ (waitingLaw_of_quiet rfl)
  · change 1 ≤ (earlyState.port p).weight ∧ (earlyState.port p).weight ≤ 8
      ∧ (earlyState.port p).credit ≤ (earlyState.port p).weight
    rw [early_port]
    split <;> decide
  · have h := inFlightOn_eq_zero (s := earlyState) fun e => by
      rw [early_entry]
      split <;> rfl
    intro p
    exact ⟨(congrArg Page.writeCount (reset_page p)).trans (h .write p).symm,
      (congrArg Page.readCount (reset_page p)).trans (h .read p).symm⟩
  · refine ⟨fun h => (by cases h), fun ⟨e, he⟩ => ?_⟩
    change (earlyState.entry e).holdsQuiesce = true at he
    rw [early_entry] at he
    split at he <;> exact absurd he (by decide)

/-- The delivery leaves the entry ORPHANED with the datapath NORMAL, against R133. -/
theorem early_step : ∃ t, step earlyState = .next t ∧ t.datapath = .normal ∧ (t.entry 0).state = .orphaned :=
  ⟨_, rfl, by decide +kernel, by decide +kernel⟩

/-- Refutes O58: `Safe` allows a DONE-WAITING entry with a piece outstanding and another response than REFUSED RESET, whose
delivery leaves an ORPHANED entry while the datapath is NORMAL. -/
theorem not_safeKept : ¬ Obligations.SafeKept := by
  intro h
  obtain ⟨t, hstep, hdatapath, hentry⟩ := early_step
  obtain ⟨⟨_, _, _, _, _, _, _, hquiesce, _⟩, _⟩ := h earlyState t early_safe hstep
  have hq : t.datapath = .quiescing := hquiesce.2 ⟨0, by simp [Entry.holdsQuiesce, hentry]⟩
  rw [hdatapath] at hq
  cases hq

end Sys2Proof.Machine

/-! PROOFS. The page pool's commands: every step keeps the law of the rings (O54), ASSIGN-PAGE (O15) and UNASSIGN-PAGE (O16). -/

namespace Sys2Proof.Machine

/-! ## Every step keeps the law of the rings (R21, R26) -/

theorem Stream.config_ring {a b : Stream} (h : b.config = a.config) : b.ring = a.ring := by
  have hr : b.config.ring = a.config.ring := congrArg Stream.ring h
  exact hr

theorem Page.config_owner {a b : Page} (h : b.config = a.config) : b.owner = a.owner := by
  have ho : b.config.owner = a.config.owner := congrArg Page.owner h
  exact ho

/-- The law of the rings reads rings, owners and which pages are assigned. -/
theorem RingLaw.congr {s t : State} (h : RingLaw s) (hr : ∀ n, (t.stream n).ring = (s.stream n).ring)
    (ho : ∀ p, (t.page p).owner = (s.page p).owner)
    (hu : ∀ p, (t.page p).stage = .unassigned ↔ (s.page p).stage = .unassigned) : RingLaw t := by
  obtain ⟨hlist, hmem, howned⟩ := h
  refine ⟨fun n => ?_, fun n p => ?_, fun p => ?_⟩
  · rw [hr]
    exact hlist n
  · rw [hr, ho, Ne, hu]
    exact hmem n p
  · rw [ho, hu]
    exact howned p

theorem RingLaw.configKept {s t : State} (h : RingLaw s) (k : ConfigKept s t) : RingLaw t :=
  h.congr (fun n => Stream.config_ring (k.streams n)) (fun p => Page.config_owner (k.pages p))
    (fun p => Page.config_unassigned (k.pages p))

/-- A stream record may be rewritten that keeps its ring. -/
theorem RingLaw.modStream {s : State} {n : StreamId} {f : Stream → Stream} (h : RingLaw s)
    (hf : (f (s.stream n)).ring = (s.stream n).ring) : RingLaw (s.modStream n f) := by
  refine h.congr (fun m => ?_) (fun _ => rfl) (fun _ => Iff.rfl)
  rw [modStream_stream]
  split
  · next hm =>
    subst hm
    exact hf
  · rfl

theorem RingLaw.mem_iff {s : State} (h : RingLaw s) {n : StreamId} {p : PageId} :
    p ∈ (s.stream n).ring ↔ (s.page p).stage ≠ .unassigned ∧ (s.page p).owner = some n := by
  obtain ⟨_, hmem, _⟩ := h
  exact hmem n p

theorem RingLaw.owner {s : State} (h : RingLaw s) {n : StreamId} {p : PageId} (hp : p ∈ (s.stream n).ring) :
    (s.page p).owner = some n := (h.mem_iff.1 hp).2

/-- A ring that page p joins or leaves, as its new descriptor says: no other page and no other ring changes. -/
theorem RingLaw.modPage_ring {s : State} {n : StreamId} {p : PageId} {pg : Page} {ring : List PageId} (h : RingLaw s)
    (hlist : ring.Nodup ∧ ring.length ≤ 8) (hring : ∀ q, q ≠ p → (q ∈ ring ↔ q ∈ (s.stream n).ring))
    (hp : p ∈ ring ↔ pg.stage ≠ .unassigned ∧ pg.owner = some n)
    (hn : ∀ m, m ≠ n → p ∉ (s.stream m).ring ∧ pg.owner ≠ some m) (ho : pg.owner = none ↔ pg.stage = .unassigned) :
    RingLaw ((s.modPage p fun _ => pg).modStream n fun st => { st with ring := ring }) := by
  obtain ⟨hl, hmem, howned⟩ := h
  refine ⟨fun m => ?_, fun m q => ?_, fun q => ?_⟩
  · rw [modStream_stream]
    split
    · exact hlist
    · exact hl m
  · rw [modStream_stream, modStream_page, modPage_page]
    by_cases hm : m = n <;> by_cases hq : q = p <;> simp only [hm, hq, if_true, if_false]
    · exact hp
    · exact (hring q hq).trans (hmem n q)
    · obtain ⟨hnot, hne⟩ := hn m hm
      exact iff_of_false hnot fun k => hne k.2
    · exact hmem m q
  · rw [modStream_page, modPage_page]
    split
    · exact ho
    · exact howned q

theorem cmdSetStream_ring {a : SetStreamArgs} {s : State} (h : RingLaw s) : RingLaw (cmdSetStream a s).state := by
  rcases cmdSetStream_state a s with e | ⟨g, _, _, _, e⟩ <;> rw [e]
  · exact h
  · exact h.modStream rfl

/-- CLEAR-STREAM empties no ring: it is taken where the ring is empty (R86). -/
theorem cmdClearStream_ring {b : Byte} {s : State} (h : RingLaw s) : RingLaw (cmdClearStream b s).state := by
  unfold cmdClearStream
  cases streamOf b with
  | none => exact h
  | some n =>
    dsimp only
    split
    · next hc =>
      simp only [Bool.and_eq_true, List.isEmpty_iff] at hc
      exact h.modStream hc.2.symm
    · exact h

theorem cmdSetConsumer_ring {a : SetConsumerArgs} {s : State} (h : RingLaw s) : RingLaw (cmdSetConsumer a s).state := by
  rcases cmdSetConsumer_state a s with e | ⟨n, x, _, e | ⟨_, e⟩⟩ <;> rw [e]
  · exact h
  all_goals exact h.modStream (by simp)

/-- A page that joins a ring was UNASSIGNED, so it stood in none (R22, R24). -/
theorem cmdAssignPage_ring {a : AssignPageArgs} {s : State} (h : RingLaw s) : RingLaw (cmdAssignPage a s).state := by
  rcases cmdAssignPage_state a s with e | ⟨p, n, _, hu, _, hlen, _, e⟩ <;> rw [e]
  · exact h
  have hnot : ∀ m, p ∉ (s.stream m).ring := fun m hm => (h.mem_iff.1 hm).1 hu
  obtain ⟨hl, _⟩ := id h
  refine h.modPage_ring ⟨?_, ?_⟩ (fun q hq => ?_) ?_ (fun m hm => ⟨hnot m, ?_⟩) ?_
  · exact (hl n).1.append (List.nodup_singleton p) (List.disjoint_singleton.2 (hnot n))
  · simpa using hlen
  · simp [hq]
  · simp [Page.assignedTo]
  · simpa [Page.assignedTo] using hm.symm
  · simp [Page.assignedTo]

/-- A page that leaves its owner's ring becomes UNASSIGNED (R25). -/
theorem cmdUnassignPage_ring {b : Byte} {s : State} (h : RingLaw s) : RingLaw (cmdUnassignPage b s).state := by
  rcases cmdUnassignPage_state b s with e | ⟨p, n, _, ho, _, e⟩ <;> rw [e]
  · exact h
  obtain ⟨hl, _⟩ := id h
  refine h.modPage_ring ⟨(hl n).1.filter _, (List.length_filter_le _ _).trans (hl n).2⟩ (fun q hq => ?_) ?_
    (fun m hm => ⟨fun hp => ?_, ?_⟩) ?_
  · simp [hq]
  · simp [Page.blank]
  · have hm' := h.owner hp
    rw [ho, Option.some.injEq] at hm'
    exact hm hm'.symm
  · simp [Page.blank]
  · simp [Page.blank]

theorem cmdStartStream_ring {b : Byte} {s : State} (h : RingLaw s) : RingLaw (cmdStartStream b s).state := by
  rcases cmdStartStream_state b s with e | ⟨n, p, rest, hoff, hf, _, hr, e⟩ <;> rw [e]
  · exact h
  · exact h.configKept (startOn_configKept hoff (by simp [ringFree_head hf hr]))

/-- Every event keeps the law of the rings. -/
theorem exec_keeps_ring {i : Instr} {s t : State} (h : RingLaw s) (e : exec i s = .next t) : RingLaw t := by
  have kept : ∀ u v, NoStart u v → RingLaw u → RingLaw v := fun _ _ k l => l.configKept k.toConfigKept
  have shifted : ∀ bytes, RingLaw (shiftFrame bytes s) := fun _ => h
  cases hw : writesConfig i with
  | false => exact kept _ _ (exec_noStart hw e) h
  | true =>
    rcases configuring_cases hw with ⟨a, f, rfl⟩ | ⟨b, f, rfl⟩ | ⟨a, f, rfl⟩ | ⟨a, f, rfl⟩ | ⟨b, f, rfl⟩ | ⟨b, f, rfl⟩ | rfl <;>
      cases e
    · exact steeringFrameEnd_keeps kept h (cmdSetStream_ring (shifted _))
    · exact steeringFrameEnd_keeps kept h (cmdClearStream_ring (shifted _))
    · exact steeringFrameEnd_keeps kept h (cmdSetConsumer_ring (shifted _))
    · exact steeringFrameEnd_keeps kept h (cmdAssignPage_ring (shifted _))
    · exact steeringFrameEnd_keeps kept h (cmdUnassignPage_ring (shifted _))
    · exact steeringFrameEnd_keeps kept h (cmdStartStream_ring (shifted _))
    · exact reset_ring

/-- Settles O54: two commands write a ring, one for a page that stands in none and one that takes a page out, and every other
event keeps rings, owners and which pages are assigned. -/
theorem ringLawKept : Obligations.RingLawKept := by
  intro s t h e
  rcases step_cases e with rfl | ⟨i, rest, e⟩
  · exact h
  · exact exec_keeps_ring (s := { s with pending := rest }) h e

/-! ## ASSIGN-PAGE (R22, R23, R24) -/

theorem pageOf_eq_some {b : Byte} {p : PageId} : pageOf b = some p ↔ b.toNat = p.val := by
  unfold pageOf
  split
  · rw [Option.some.injEq, Fin.ext_iff]
  · simp only [reduceCtorEq, false_iff]
    omega

theorem pageOf_eq_none {b : Byte} (h : 63 < b.toNat) : pageOf b = none := dif_neg (by omega)

/-- R22, but for page and stream number. -/
theorem assignNumbersOk_iff {a : AssignPageArgs} :
    assignNumbersOk a = true ↔
      a.base.toNat % 4096 = 0 ∧ 1 ≤ a.size.toNat ∧ a.size.toNat ≤ 268435456 ∧ a.size.toNat % 4096 = 0
        ∧ a.base.toNat + a.size.toNat - 1 ≤ 0xFFFFFFFFFF := by
  simp only [assignNumbersOk, Bool.and_eq_true, Bool.not_eq_true', Range.pastTop_eq_false, pageAligned_iff,
    decide_eq_true_eq, beq_iff_eq, and_assoc]

theorem checkAssignPage_eq_some {a : AssignPageArgs} {p : PageId} {n : StreamId} :
    checkAssignPage a = some (p, n) ↔ pageOf a.page = some p ∧ streamOf a.stream = some n ∧ assignNumbersOk a = true := by
  unfold checkAssignPage
  constructor
  · intro h
    split at h
    · next hp hn =>
      split at h
      · next hok =>
        cases h
        exact ⟨hp, hn, hok⟩
      · cases h
    · cases h
  · rintro ⟨hp, hn, hok⟩
    rw [hp, hn]
    exact if_pos hok

theorem cmdAssignPage_checked {a : AssignPageArgs} {p : PageId} {n : StreamId} (h : checkAssignPage a = some (p, n))
    (s : State) :
    cmdAssignPage a s =
      if (s.page p).assigned || (s.stream n).state != .off || decide (8 ≤ (s.stream n).ring.length) then
        Answer.refuse .badState s
      else if pageOverlaps s ⟨a.base.toNat, a.size.toNat⟩ then Answer.refuse .overlap s
      else Answer.done
        ((s.modPage p fun _ => Page.assignedTo n a).modStream n fun st => { st with ring := st.ring ++ [p] }) := by
  unfold cmdAssignPage
  rw [h]

theorem Page.assigned_iff (pg : Page) : pg.assigned = true ↔ pg.stage ≠ .unassigned := by simp [Page.assigned]

/-- The overlap test of R23, in words. -/
theorem pageOverlaps_eq_false {s : State} {r : Range} :
    pageOverlaps s r = false ↔
      (∀ ap ∈ definedApertures s, r.overlaps ap.range = false)
        ∧ ∀ q, (s.page q).stage ≠ .unassigned → r.overlaps (s.page q).range = false := by
  rw [pageOverlaps, Bool.or_eq_false_iff, meetsPage_eq_false, List.any_eq_false]
  simp only [Bool.not_eq_true]

theorem pageOverlaps_of_meets {s : State} {r : Range}
    (h : (∃ ap ∈ definedApertures s, r.overlaps ap.range = true)
      ∨ ∃ q, (s.page q).stage ≠ .unassigned ∧ r.overlaps (s.page q).range = true) : pageOverlaps s r = true := by
  rw [← Bool.not_eq_false, pageOverlaps_eq_false]
  rintro ⟨hap, hpg⟩
  rcases h with ⟨ap, hm, ho⟩ | ⟨q, hq, ho⟩
  · rw [hap ap hm] at ho
    cases ho
  · rw [hpg q hq] at ho
    cases ho

/-- A steering command that rewrites one page and one stream record, with the re-test behind it. -/
theorem steering_page_rewritten {i : Instr} {bytes : List Byte} {bits : List Bool} {command : State → Answer} {s : State}
    {p : PageId} {n : StreamId} {g : Page → Page} {f : Stream → Stream} (hr : PortReady s)
    (hf : frameOf i = some (bytes, bits)) (he : exec i s = .next (steeringFrameEnd bytes command s))
    (hc : command (shiftFrame bytes s) = Answer.done (((shiftFrame bytes s).modPage p g).modStream n f)) :
    ∃ t u, exec i s = .next u ∧ Retested t u ∧ Framed i [0x00] s t ∧ t.page p = g (s.page p)
      ∧ t.stream n = f (s.stream n) ∧ OtherStreams n s t ∧ OtherPages [p] s t ∧ SameTraffic s t ∧ SameEvents s t := by
  rw [steeringFrameEnd_taken hr (by rw [hc]; rfl)] at he
  obtain ⟨hans, hfr⟩ := answered_of (data := []) hf hc
    ((modPage_frame _ p g).trans (modStream_frame _ n f)).command
  refine ⟨_, _, he, testWaiting_retested _, ?_⟩
  rw [hans]
  refine ⟨hfr, ?_, ?_, fun m hm => ?_, fun q hq => ?_, ⟨rfl, rfl, rfl, rfl, rfl, rfl⟩, rfl, rfl, rfl, rfl, rfl⟩
  · exact modPage_page_same (shiftFrame bytes s) p g
  · exact modStream_stream_same ((shiftFrame bytes s).modPage p g) n f
  · exact modStream_stream_other ((shiftFrame bytes s).modPage p g) hm f
  · exact modPage_page_other (shiftFrame bytes s) (by simpa using hq) g

/-- Settles O15: the checks of the model are the ones of R22 and R23, in the order of R24. -/
theorem assignPageDecides : Obligations.AssignPageDecides := by
  refine ⟨fun a f s hr hbad => ?_, ?_⟩
  · have hc : checkAssignPage a = none := by
      cases hg : checkAssignPage a with
      | none => rfl
      | some g =>
        obtain ⟨hp, hn, hok⟩ := checkAssignPage_eq_some.1 hg
        obtain ⟨h1, h2, h3, h4, h5⟩ := assignNumbersOk_iff.1 hok
        have hp' := pageOf_eq_some.1 hp
        have hn' := streamOf_eq_some.1 hn
        omega
    refine steering_refused hr rfl rfl (code := .badArg) (by decide) ?_
    unfold cmdAssignPage
    rw [hc]
  intro p n a f s hr hp hn hb hs1 hs2 hs3 htop
  have hc : checkAssignPage a = some (p, n) :=
    checkAssignPage_eq_some.2 ⟨pageOf_eq_some.2 hp, streamOf_eq_some.2 hn, assignNumbersOk_iff.2 ⟨hb, hs1, hs3, hs2, htop⟩⟩
  have hcmd := cmdAssignPage_checked hc (shiftFrame ([0x20] ++ assignPageBytes a ++ f.extra) s)
  have hstate : ((s.page p).assigned || (s.stream n).state != .off || decide (8 ≤ (s.stream n).ring.length)) = true ↔
      (s.page p).stage ≠ .unassigned ∨ (s.stream n).state ≠ .off ∨ 8 ≤ (s.stream n).ring.length := by
    simp only [Bool.or_eq_true, Page.assigned_iff, bne_iff_ne, decide_eq_true_eq, or_assoc]
  refine ⟨fun hbad => ?_, fun hu hoff hlen => ?_⟩
  · exact steering_refused hr rfl rfl (code := .badState) (by decide) (hcmd.trans (if_pos (hstate.2 hbad)))
  have hgood : ¬ ((s.page p).stage ≠ .unassigned ∨ (s.stream n).state ≠ .off ∨ 8 ≤ (s.stream n).ring.length) := by
    simp [hu, hoff, hlen]
  replace hcmd := hcmd.trans (if_neg (mt hstate.1 hgood))
  refine ⟨fun hmeets => ?_, fun hap hpg => ?_⟩
  · refine steering_refused hr rfl rfl (code := .overlap) (by decide) (hcmd.trans (if_pos ?_))
    exact pageOverlaps_of_meets (s := s) hmeets
  · refine steering_page_rewritten (g := fun _ => Page.assignedTo n a) hr rfl rfl (hcmd.trans (if_neg ?_))
    rw [Bool.not_eq_true]
    exact pageOverlaps_eq_false.2 ⟨hap, hpg⟩

/-! ## UNASSIGN-PAGE (R25) -/

section Unassign

variable {b : Byte} {p : PageId} (hp : pageOf b = some p) (s : State)
include hp

theorem cmdUnassignPage_unassigned (h : (s.page p).stage = .unassigned) :
    cmdUnassignPage b s = Answer.refuse .badState s := by
  unfold cmdUnassignPage
  rw [hp]
  exact if_neg fun k => (Page.assigned_iff _).1 k h

theorem cmdUnassignPage_owned {n : StreamId} (h : (s.page p).stage ≠ .unassigned) (ho : (s.page p).owner = some n) :
    cmdUnassignPage b s = unassign p n s := by
  unfold cmdUnassignPage
  rw [hp]
  dsimp only
  rw [if_pos ((Page.assigned_iff _).2 h), ho]

end Unassign

/-- Settles O16, by the stage of the page and the state of its owner. -/
theorem unassignPageDecides : Obligations.UnassignPageDecides := by
  refine ⟨fun b f s hr hb => ?_, fun p b f s hr hb => ?_⟩
  · refine steering_refused hr rfl rfl (code := .badArg) (by decide) ?_
    unfold cmdUnassignPage
    rw [pageOf_eq_none hb]
  replace hb := pageOf_eq_some.2 hb
  refine ⟨fun hu => ?_, fun n hu ho => ?_⟩
  · exact steering_refused hr rfl rfl (code := .badState) (by decide) (cmdUnassignPage_unassigned hb _ hu)
  have hcmd := cmdUnassignPage_owned hb (shiftFrame ([0x21, b] ++ f.extra) s) hu ho
  unfold unassign at hcmd
  refine ⟨fun hact => ?_, fun hoff hret => ?_, fun hoff hfree => ?_⟩
  · exact steering_refused hr rfl rfl (code := .badState) (by decide)
      (hcmd.trans (if_pos ((Stream.active_iff _).2 hact)))
  all_goals
    have hna : ¬ (s.stream n).active = true := by simp [Stream.active, hoff]
    replace hcmd := hcmd.trans (if_neg hna)
  · refine steering_refused hr rfl rfl (code := .busy) (by decide) (hcmd.trans (if_pos ?_))
    change ((s.page p).stage != .free) = true
    rw [hret]
    rfl
  · have hring : (fun st : Stream => { st with ring := st.ring.filter (· != p) })
        = fun st => { st with ring := st.ring.filter (· ≠ p) } := by
      funext st
      congr 2
      funext q
      simp [bne, Bool.beq_eq_decide_eq]
    rw [hring] at hcmd
    refine steering_page_rewritten (g := fun _ => Page.blank) hr rfl rfl (hcmd.trans (if_neg ?_))
    change ¬ ((s.page p).stage != .free) = true
    rw [hfree]
    exact Bool.false_ne_true

end Sys2Proof.Machine

/-! PROOFS. Retirement tests and the publication chain: what the model's folds make of a state, in the words of the claims. -/

namespace Sys2Proof.Machine

/-! ## Updates of one row, one after another -/

@[simp] theorem setRow_setRow {α : Type} {n : Nat} (t : Vector α n) (i : Fin n) (x y : α) :
    setRow (setRow t i x) i y = setRow t i y := by
  apply vector_ext_get
  intro j
  simp only [setRow_get]
  split <;> rfl

theorem modPage_congr {s : State} {p : PageId} {f g : Page → Page} (h : f (s.page p) = g (s.page p)) :
    s.modPage p f = s.modPage p g := by
  unfold State.modPage
  rw [h]

theorem modPage_modPage (s : State) (p : PageId) (f g : Page → Page) :
    (s.modPage p f).modPage p g = s.modPage p fun pg => g (f pg) := by
  unfold State.modPage
  simp [State.page]

theorem modEntry_modEntry (s : State) (e : EntryId) (f g : Entry → Entry) :
    (s.modEntry e f).modEntry e g = s.modEntry e fun en => g (f en) := by
  unfold State.modEntry
  simp [State.entry]

theorem modEntry_congr {s : State} {e : EntryId} {f g : Entry → Entry} (h : f (s.entry e) = g (s.entry e)) :
    s.modEntry e f = s.modEntry e g := by
  unfold State.modEntry
  rw [h]

theorem modStream_congr {s : State} {n : StreamId} {f g : Stream → Stream} (h : f (s.stream n) = g (s.stream n)) :
    s.modStream n f = s.modStream n g := by
  unfold State.modStream
  rw [h]

theorem modStream_self {s : State} {n : StreamId} {f : Stream → Stream} (h : f (s.stream n) = s.stream n) :
    s.modStream n f = s := by
  unfold State.modStream State.stream
  unfold State.stream at h
  rw [h, setRow_self]

theorem modPort_self {s : State} {p : PortId} {f : Port → Port} (h : f (s.port p) = s.port p) : s.modPort p f = s := by
  unfold State.modPort State.port
  unfold State.port at h
  rw [h, setRow_self]

/-- Raising reads nothing of the transaction table. -/
theorem raise_modEntry (s : State) (e : EntryId) (f : Entry → Entry) (r : EventRecord) :
    (s.modEntry e f).raise r = (s.raise r).modEntry e f := by
  have hk : (s.modEntry e f).kindEnabled r.kind = s.kindEnabled r.kind := rfl
  unfold State.raise
  rw [hk]
  split
  · rw [modEntry_events]
    split <;> rfl
  · rfl

@[simp] theorem raise_entry (s : State) (r : EventRecord) (e : EntryId) : (s.raise r).entry e = s.entry e := by
  simp [State.entry]

@[simp] theorem raise_port (s : State) (r : EventRecord) (p : PortId) : (s.raise r).port p = s.port p := by
  simp [State.port]

theorem raise_raisedOnly (s : State) (r : EventRecord) : RaisedOnly r s (s.raise r) := by
  refine ⟨raised_raise s r, ?_⟩
  rcases raise_cases s r with ⟨_, h⟩ | ⟨_, _, h⟩ | ⟨_, _, h⟩ <;> rw [h]

theorem RotationFrame.rotationOnly {s t : State} (h : RotationFrame s t) : RotationOnly s t := by
  obtain ⟨h1, h2, h3, h4, h5, h6, h7, h8, h9, h10, h11, h12, h13, h14, h15⟩ := h
  unfold RotationOnly
  rw [← h1, ← h2, ← h3, ← h4, ← h5, ← h6, ← h7, ← h8, ← h9, ← h10, ← h11, ← h12, ← h13, ← h14, ← h15]

/-! ## The newer relation (R43) -/

theorem newer_iff (a b : Word32) : newer a b = true ↔ NewerFrame a b := by simp [newer, NewerFrame]

theorem NewerFrame.asymm {a b : Word32} (h : NewerFrame a b) : ¬ NewerFrame b a := by
  unfold NewerFrame at *
  bv_omega

/-- Of two frames closed before b, the one further back is the older one. -/
theorem NewerFrame.of_age {b f g : Word32} (hf : NewerFrame b f) (hg : NewerFrame b g) (hne : f ≠ g)
    (h : (b - g).toNat ≤ (b - f).toNat) : NewerFrame g f := by
  unfold NewerFrame at *
  bv_omega

theorem olderFrame_of_newerPage {s : State} {p q : PageId} (h : NewerPage s q p) :
    olderFrame (s.page p).frame (s.page q).frame = true ∧ olderFrame (s.page q).frame (s.page p).frame = false := by
  obtain ⟨f, g, hf, hg, hn⟩ := h
  rw [hf, hg]
  exact ⟨(newer_iff f g).2 hn, Bool.eq_false_iff.2 fun k => hn.asymm ((newer_iff g f).1 k)⟩

/-! ## Release and retirement (R31, R76 to R78) -/

theorem Page.idle_iff (pg : Page) : pg.idle = true ↔ pg.writeCount = 0 ∧ pg.readCount = 0 := by simp [Page.idle]

theorem Page.unheld_iff (pg : Page) : pg.unheld = true ↔ pg.holdA = false ∧ pg.holdB = false := by simp [Page.unheld]

theorem Page.released_eq (pg : Page) :
    pg.released =
      { pg with
        frame := none, holdA := false, holdB := false,
        stage := if pg.writeCount = 0 ∧ pg.readCount = 0 then .free else .retiring } := by
  simp only [Page.released, Page.idle_iff]

theorem Page.released_stage (pg : Page) : pg.released.stage = .free ∨ pg.released.stage = .retiring := by
  rw [Page.released_eq]
  dsimp only
  split
  · exact Or.inl rfl
  · exact Or.inr rfl

theorem SameEvents.refl (s : State) : SameEvents s s := ⟨rfl, rfl, rfl, rfl, rfl⟩

theorem SameEvents.trans {s t u : State} (h : SameEvents s t) (k : SameEvents t u) : SameEvents s u := by
  obtain ⟨h1, h2, h3, h4, h5⟩ := h
  obtain ⟨k1, k2, k3, k4, k5⟩ := k
  exact ⟨k1.trans h1, k2.trans h2, k3.trans h3, k4.trans h4, k5.trans h5⟩

theorem release_sameEvents (p : PageId) (s : State) : SameEvents s (release p s) := by
  unfold release
  cases (s.page p).owner <;> exact SameEvents.refl s

theorem Slot.passed_iff {sl : Slot} {frame : Option Word32} :
    sl.passed frame = true ↔
      (sl.enabled = true → ∃ l f, sl.lastTaken = some l ∧ frame = some f ∧ (l = f ∨ NewerFrame l f)) := by
  unfold Slot.passed
  cases hl : sl.lastTaken <;> cases frame <;> cases sl.enabled <;> simp [newer_iff]

/-- The model's retirement test is R76. -/
theorem retires_iff {s : State} {n : StreamId} {q : PageId} : retires s n q = true ↔ RetirementHolds s n q := by
  have hpolicy : ((s.stream n).takePolicy == .newest) = true ↔ (s.stream n).takePolicy ≠ .oldest := by
    cases (s.stream n).takePolicy <;> simp
  have hslots : (∀ x : SlotId, (s.slot n x).enabled = true →
        ∃ l f, (s.slot n x).lastTaken = some l ∧ (s.page q).frame = some f ∧ (l = f ∨ NewerFrame l f)) ↔
      (s.stream n).slotA.passed (s.page q).frame = true ∧ (s.stream n).slotB.passed (s.page q).frame = true := by
    rw [Slot.passed_iff, Slot.passed_iff]
    exact ⟨fun h => ⟨h .a, h .b⟩, fun h x => match x with | .a => h.1 | .b => h.2⟩
  unfold retires RetirementHolds
  rw [hslots]
  simp only [Bool.and_eq_true, Bool.or_eq_true, hpolicy, Page.unheld_iff, beq_iff_eq, bne_iff_ne, and_assoc,
    imp_iff_not_or]

theorem getLast_filter_ne {l : List PageId} {p : PageId} (h : l.getLast? ≠ some p) :
    (l.filter (· != p)).getLast? = l.getLast? := by
  induction l using List.reverseRecOn with
  | nil => rfl
  | append_singleton l q _ =>
    have hq : q ≠ p := fun e => h (by simp [e])
    simp [List.filter_append, hq]

/-- Behind the release of a page that retires, the test of another page is the same, and the page itself fails it. -/
theorem retirementHolds_release {s : State} {n : StreamId} {p q : PageId} (ho : (s.page p).owner = some n)
    (hp : RetirementHolds s n p) : RetirementHolds (release p s) n q ↔ q ≠ p ∧ RetirementHolds s n q := by
  obtain ⟨_, _, _, hlast, _⟩ := hp
  by_cases hq : q = p
  · subst hq
    simp only [ne_eq, not_true_eq_false, false_and, iff_false]
    rintro ⟨hs, _⟩
    rw [release_page_same] at hs
    rcases Page.released_stage (s.page q) with h | h <;> rw [h] at hs <;> cases hs
  · have hslot : ∀ x, (release p s).slot n x = s.slot n x := fun x => by
      rw [State.slot, release_stream_owner s ho]
      cases x <;> rfl
    unfold RetirementHolds
    simp only [hslot, release_page_other s hq, release_stream_owner s ho, getLast_filter_ne hlast, ne_eq, hq,
      not_false_eq_true, true_and]

/-- The retirement tests of a list of the stream's pages, one after another, are the tests of the claims (R76, R78). -/
theorem retireFold_retired {n : StreamId} {l : List PageId} {s : State} (h : ∀ q ∈ l, (s.page q).owner = some n) :
    Retired n l s (l.foldl (retireTest n) s) := by
  induction l generalizing s with
  | nil =>
    exact ⟨[], by simp, by simp, fun _ _ => rfl, by simp, fun _ _ => rfl, SameEvents.refl s, rfl⟩
  | cons p rest ih =>
    have hrot := (retireFold_frame n (p :: rest) s).rotationOnly
    have hp : (s.page p).owner = some n := h p (List.mem_cons_self ..)
    have hrest : ∀ q ∈ rest, (s.page q).owner = some n := fun q hq => h q (List.mem_cons_of_mem _ hq)
    rw [List.foldl_cons] at hrot ⊢
    rcases retireTest_cases n s p with ⟨hr, e⟩ | ⟨hr, e⟩ <;> rw [e] at hrot ⊢
    · have hnot : ¬ RetirementHolds s n p := fun k => by
        rw [retires_iff.2 k] at hr
        cases hr
      obtain ⟨gone, hgone, hlaws⟩ := ih hrest
      refine ⟨gone, fun q => ?_, hlaws⟩
      rw [hgone, List.mem_cons]
      exact ⟨fun ⟨hq, k⟩ => ⟨Or.inr hq, k⟩, fun ⟨hq, k⟩ => ⟨hq.resolve_left fun e => hnot (e ▸ k), k⟩⟩
    · have hholds := retires_iff.1 hr
      have hown : ∀ q ∈ rest, ((release p s).page q).owner = some n := fun q hq => by
        by_cases hqp : q = p
        · rw [hqp, release_page_same]
          exact hp
        · rw [release_page_other s hqp]
          exact hrest q hq
      obtain ⟨gone, hgone, hstream, hothers, hpages, hkept, hev, _⟩ := ih hown
      have hpgone : p ∉ gone := fun k => ((retirementHolds_release hp hholds).1 ((hgone p).1 k).2).1 rfl
      refine ⟨p :: gone, fun q => ?_, ?_, fun m hm => ?_, fun q hq => ?_, fun q hq => ?_,
        (release_sameEvents p s).trans hev, hrot⟩
      · rw [List.mem_cons, List.mem_cons, hgone, retirementHolds_release hp hholds]
        by_cases hqp : q = p
        · simp [hqp, hholds]
        · simp [hqp]
      · have hready : ((s.stream n).ready.filter (· != p)).filter (· ∉ gone) = (s.stream n).ready.filter (· ∉ p :: gone) := by
          rw [List.filter_filter]
          apply List.filter_congr
          intro q _
          by_cases hqp : q = p <;> simp [hqp]
        rw [hstream, release_stream_owner s hp]
        exact congrArg (fun ready => { s.stream n with ready := ready }) hready
      · rw [hothers m hm, release_stream_other]
        rw [hp]
        simpa using hm.symm
      · by_cases hqp : q = p
        · subst hqp
          rw [hkept q hpgone, release_page_same, Page.released_eq]
        · have hq' : q ∈ gone := (List.mem_cons.1 hq).resolve_left hqp
          rw [hpages q hq', release_page_other s hqp]
      · rw [List.mem_cons, not_or] at hq
        rw [hkept q hq.2, release_page_other s hq.1]

/-- The retirement test of every ready page (R77). -/
theorem retireAll_retired {n : StreamId} {s : State} (h : ∀ q ∈ (s.stream n).ready, (s.page q).owner = some n) :
    Retired n (s.stream n).ready s (retireAll n s) := retireFold_retired h

/-! ## One turn of the publication chain (R54 to R57) -/

theorem mem_pendingPages {s : State} {n : StreamId} {p : PageId} : p ∈ pendingPages s n ↔ Pending s n p := by
  simp [pendingPages, Pending, Page.isPending]

theorem oldestPending_none {s : State} {n : StreamId} (h : ∀ p, ¬ Pending s n p) : oldestPending s n = none := by
  have hl : pendingPages s n = [] := List.eq_nil_iff_forall_not_mem.2 fun p hp => h p (mem_pendingPages.1 hp)
  unfold oldestPending
  rw [hl]
  rfl

theorem olderPage_of_newer {s : State} {p q : PageId} (h : NewerPage s q p) :
    olderPage s (some q) p = some p ∧ olderPage s (some p) q = some p := by
  obtain ⟨h1, h2⟩ := olderFrame_of_newerPage h
  simp [olderPage, h1, h2]

theorem olderPage_self (s : State) (p : PageId) : olderPage s (some p) p = some p := by
  unfold olderPage
  dsimp only
  split <;> rfl

/-- The fold over pages of which all but p are newer than p finds p. -/
theorem foldl_olderPage {s : State} {p : PageId} {l : List PageId} {best : Option PageId}
    (hl : ∀ q ∈ l, q ≠ p → NewerPage s q p) (hb : ∀ q, best = some q → q ≠ p → NewerPage s q p)
    (h : p ∈ l ∨ best = some p) : l.foldl (olderPage s) best = some p := by
  induction l generalizing best with
  | nil => exact h.resolve_left (List.not_mem_nil)
  | cons q rest ih =>
    have hrest : ∀ r ∈ rest, r ≠ p → NewerPage s r p := fun r hr => hl r (List.mem_cons_of_mem _ hr)
    rw [List.foldl_cons]
    by_cases hq : q = p
    · have hnext : olderPage s best q = some p := by
        subst hq
        cases best with
        | none => rfl
        | some b =>
          by_cases hbq : b = q
          · rw [hbq]
            exact olderPage_self s q
          · exact (olderPage_of_newer (hb b rfl hbq)).1
      exact ih hrest (fun r hr hne => absurd (Option.some.inj (hr.symm.trans hnext)) hne) (Or.inr hnext)
    · have hnew := hl q (List.mem_cons_self ..) hq
      have hmem : p ∈ rest ∨ best = some p := h.imp_left fun k => (List.mem_cons.1 k).resolve_left (Ne.symm hq)
      cases best with
      | none =>
        refine ih hrest (fun r hr hne => ?_) (Or.inl (hmem.resolve_right (by simp)))
        cases hr
        exact hnew
      | some b =>
        by_cases hbp : b = p
        · subst hbp
          rw [(olderPage_of_newer hnew).2]
          exact ih hrest hb (Or.inr rfl)
        · refine ih hrest (fun r hr hne => ?_) (Or.inl (hmem.resolve_right fun k => hbp (Option.some.inj k)))
          unfold olderPage at hr
          dsimp only at hr
          split at hr <;> cases hr
          · exact hnew
          · exact hb b rfl hbp

theorem oldestPending_of {s : State} {n : StreamId} {p : PageId} (h : OldestPending s n p) :
    oldestPending s n = some p := by
  obtain ⟨hp, hold⟩ := h
  exact foldl_olderPage (fun q hq hne => hold q (mem_pendingPages.1 hq) hne) (fun q hq => by cases hq)
    (Or.inl (mem_pendingPages.2 hp))

theorem chain_nothing (fuel : Nat) {n : StreamId} {s : State} (h : ∀ p, ¬ Pending s n p) : chain fuel n s = s := by
  cases fuel with
  | zero => rfl
  | succ fuel =>
    unfold chain
    rw [oldestPending_none h]

theorem chain_succ {n : StreamId} {p : PageId} {s : State} (h : OldestPending s n p) (fuel : Nat) :
    chain (fuel + 1) n s =
      if (s.page p).stage == .sealed then
        chain fuel n (if (s.page p).damaged then discard n p s else publish n p s)
      else s := by
  rw [chain, oldestPending_of h]

theorem chain_wait {n : StreamId} {p : PageId} {s : State} (h : OldestPending s n p)
    (hc : (s.page p).stage = .closing) (fuel : Nat) : chain fuel n s = s := by
  cases fuel with
  | zero => rfl
  | succ fuel => rw [chain_succ h, hc, if_neg (by decide)]

theorem chain_publish {n : StreamId} {p : PageId} {s : State} (h : OldestPending s n p)
    (hs : (s.page p).stage = .sealed) (hd : (s.page p).damaged = false) (fuel : Nat) :
    chain (fuel + 1) n s = chain fuel n (publish n p s) := by
  rw [chain_succ h, hs, hd, if_pos (by decide), if_neg (by decide)]

theorem chain_discard {n : StreamId} {p : PageId} {s : State} (h : OldestPending s n p)
    (hs : (s.page p).stage = .sealed) (hd : (s.page p).damaged = true) (fuel : Nat) :
    chain (fuel + 1) n s = chain fuel n (discard n p s) := by
  rw [chain_succ h, hs, hd, if_pos (by decide), if_pos (by decide)]

/-- A released page that stands in no ready list leaves its stream alone. -/
theorem release_notReady {s : State} {n : StreamId} {p : PageId} (ho : (s.page p).owner = some n)
    (h : p ∉ (s.stream n).ready) : release p s = s.modPage p Page.released := by
  unfold release
  rw [ho]
  dsimp only
  rw [modStream_self]
  have hf : (s.stream n).ready.filter (· != p) = (s.stream n).ready :=
    List.filter_eq_self.2 fun q hq => bne_iff_ne.2 fun e => h (e ▸ hq)
  rw [hf]

/-- What a publication chain needs of its stream: pending and ready pages are the stream's own, ready ones are PUBLISHED, and
pending ones carry different frames, all closed before frame b. -/
structure ChainReady (n : StreamId) (b : Word32) (s : State) : Prop where
  owned : ∀ p, Pending s n p → (s.page p).owner = some n
  ready : ∀ q ∈ (s.stream n).ready, (s.page q).stage = .published ∧ (s.page q).owner = some n
  frames : ∀ p, Pending s n p → ∃ f, (s.page p).frame = some f ∧ NewerFrame b f
  distinct : ∀ p q, Pending s n p → Pending s n q → p ≠ q → (s.page p).frame ≠ (s.page q).frame

section ChainReady

variable {n : StreamId} {b : Word32} {s : State} (h : ChainReady n b s)
include h

/-- Of frames that can all be compared one is the oldest. -/
theorem ChainReady.exists_oldest {p : PageId} (hp : Pending s n p) : ∃ q, OldestPending s n q := by
  have hne : (pendingPages s n).toFinset.Nonempty := ⟨p, List.mem_toFinset.2 (mem_pendingPages.2 hp)⟩
  obtain ⟨q, hq, hmax⟩ := Finset.exists_max_image _ (fun q => (b - (s.page q).frame.getD 0).toNat) hne
  rw [List.mem_toFinset, mem_pendingPages] at hq
  refine ⟨q, hq, fun r hr hrq => ?_⟩
  obtain ⟨f, hf, hfb⟩ := h.frames q hq
  obtain ⟨g, hg, hgb⟩ := h.frames r hr
  have hage := hmax r (List.mem_toFinset.2 (mem_pendingPages.2 hr))
  simp only [hf, hg, Option.getD_some] at hage
  exact ⟨g, f, hg, hf, hfb.of_age hgb (fun e => h.distinct r q hr hq hrq (by rw [hf, hg, e])) hage⟩

theorem ChainReady.not_ready {p : PageId} (hp : Pending s n p) : p ∉ (s.stream n).ready := fun hm => by
  obtain ⟨_, hs | hs⟩ := hp <;> rw [(h.ready p hm).1] at hs <;> cases hs

theorem publish_published {p : PageId} (hp : Pending s n p) : Published n p s (publish n p s) := by
  refine ⟨_, rfl, retireAll_retired fun q hq => ?_⟩
  rw [modStream_page, modPage_page]
  split
  · next e =>
    subst e
    exact h.owned q hp
  · next hne =>
    rw [modStream_stream_same, List.mem_append, List.mem_singleton] at hq
    exact (h.ready q (hq.resolve_right hne)).2

theorem discard_discarded {p : PageId} (hp : Pending s n p) : Discarded n p s (discard n p s) := by
  refine ⟨_, raise_raisedOnly _ _, ?_⟩
  unfold discard
  rw [release_notReady (n := n) (by simpa using h.owned p hp) (by simpa using h.not_ready hp)]
  exact modPage_congr (Page.released_eq _)

/-- Behind a turn of the chain that makes no page pending and leaves the pending ones as they were. -/
theorem ChainReady.turn {v : State} (hpend : ∀ q, Pending v n q → Pending s n q ∧ v.page q = s.page q)
    (hready : ∀ q ∈ (v.stream n).ready, (v.page q).stage = .published ∧ (v.page q).owner = some n) :
    ChainReady n b v := by
  refine ⟨fun q hq => ?_, hready, fun q hq => ?_, fun q r hq hr hne => ?_⟩
  · rw [(hpend q hq).2]
    exact h.owned q (hpend q hq).1
  · rw [(hpend q hq).2]
    exact h.frames q (hpend q hq).1
  · rw [(hpend q hq).2, (hpend r hr).2]
    exact h.distinct q r (hpend q hq).1 (hpend r hr).1 hne

end ChainReady

theorem released_not_pending {v : State} {n : StreamId} {q : PageId}
    (h : (v.page q).stage = .free ∨ (v.page q).stage = .retiring ∨ (v.page q).stage = .published) : ¬ Pending v n q := by
  rintro ⟨_, hs | hs⟩ <;> simp [hs] at h

/-- A publication takes its page from the pending pages, and leaves the others as they were. -/
theorem Published.pending {n : StreamId} {p q : PageId} {s v : State} (w : Published n p s v) (hq : Pending v n q) :
    Pending s n q ∧ q ≠ p ∧ v.page q = s.page q := by
  obtain ⟨u, rfl, gone, _, hstream, _, hpages, hkept, _⟩ := w
  have hgone : q ∉ gone := fun hg => by
    refine released_not_pending ?_ hq
    rw [hpages q hg, ← Page.released_eq]
    exact (Page.released_stage _).imp_right Or.inl
  have hpage := hkept q hgone
  rw [modStream_page, modPage_page] at hpage
  by_cases hqp : q = p
  · rw [if_pos hqp] at hpage
    exact absurd hq (released_not_pending (by simp [hpage]))
  · rw [if_neg hqp] at hpage
    refine ⟨?_, hqp, hpage⟩
    unfold Pending at hq
    rw [hpage, hstream, modStream_stream_same] at hq
    exact hq

theorem Published.ring {n : StreamId} {p : PageId} {s v : State} (w : Published n p s v) :
    (v.stream n).ring = (s.stream n).ring := by
  obtain ⟨u, rfl, gone, _, hstream, _⟩ := w
  rw [hstream, modStream_stream_same]
  rfl

theorem Published.ready {n : StreamId} {p : PageId} {s v : State} (w : Published n p s v)
    (hp : (s.page p).owner = some n)
    (h : ∀ q ∈ (s.stream n).ready, (s.page q).stage = .published ∧ (s.page q).owner = some n) :
    ∀ q ∈ (v.stream n).ready, (v.page q).stage = .published ∧ (v.page q).owner = some n := by
  obtain ⟨u, rfl, gone, _, hstream, _, _, hkept, _⟩ := w
  intro q hq
  rw [hstream, modStream_stream_same, List.mem_filter, List.mem_append, List.mem_singleton, decide_eq_true_eq] at hq
  obtain ⟨hmem, hgone⟩ := hq
  rw [hkept q hgone, modStream_page, modPage_page]
  split
  · next e => exact ⟨rfl, e ▸ hp⟩
  · next hne => exact h q (hmem.resolve_right hne)

/-- A discard leaves every page but its own, and every ring and ready list. -/
theorem Discarded.rest {n : StreamId} {p : PageId} {s v : State} (w : Discarded n p s v) :
    (v.stream n).ring = (s.stream n).ring ∧ (v.stream n).ready = (s.stream n).ready
      ∧ (∀ q, q ≠ p → v.page q = s.page q)
      ∧ ((v.page p).stage = .free ∨ (v.page p).stage = .retiring ∨ (v.page p).stage = .published) := by
  obtain ⟨u, ⟨_, hu⟩, rfl⟩ := w
  have hstream : u.stream n = { s.stream n with damaged := (s.stream n).damaged + 1 } := by
    rw [hu]
    exact modStream_stream_same s n fun st => { st with damaged := st.damaged + 1 }
  have hpage : ∀ q, u.page q = s.page q := fun q => by
    rw [hu]
    rfl
  refine ⟨?_, ?_, fun q hq => ?_, ?_⟩
  · rw [modPage_stream, hstream]
  · rw [modPage_stream, hstream]
  · rw [modPage_page_other _ hq, hpage]
  · rw [modPage_page_same, ← Page.released_eq]
    exact (Page.released_stage _).imp_right Or.inl

theorem Discarded.pending {n : StreamId} {p q : PageId} {s v : State} (w : Discarded n p s v) (hq : Pending v n q) :
    Pending s n q ∧ q ≠ p ∧ v.page q = s.page q := by
  obtain ⟨hring, _, hpages, hout⟩ := w.rest
  have hqp : q ≠ p := fun e => released_not_pending hout (e ▸ hq)
  refine ⟨?_, hqp, hpages q hqp⟩
  unfold Pending at hq
  rwa [hring, hpages q hqp] at hq

/-- Each turn of the chain takes one page from the pending pages. -/
theorem pendingPages_length_lt {n : StreamId} {p : PageId} {s v : State}
    (hring : (v.stream n).ring = (s.stream n).ring) (hp : Pending s n p)
    (h : ∀ q, Pending v n q → Pending s n q ∧ q ≠ p ∧ v.page q = s.page q) :
    (pendingPages v n).length < (pendingPages s n).length := by
  have hsub : pendingPages v n = (pendingPages s n).filter fun q => (v.page q).isPending := by
    unfold pendingPages
    rw [List.filter_filter, hring]
    apply List.filter_congr
    intro q hq
    cases hv : (v.page q).isPending with
    | false => rfl
    | true =>
      have hpend : Pending v n q := mem_pendingPages.1 (List.mem_filter.2 ⟨hring.symm ▸ hq, hv⟩)
      rw [← (h q hpend).2.2, hv]
      rfl
  rw [hsub, List.length_filter_lt_length_iff_exists]
  refine ⟨p, mem_pendingPages.2 hp, fun hv => ?_⟩
  have hpend : Pending v n p := mem_pendingPages.1 (List.mem_filter.2 ⟨hring.symm ▸ hp.1, hv⟩)
  exact (h p hpend).2.1 rfl

/-- With turns enough for every pending page, the model's chain is the one of R55. -/
theorem chain_chain {n : StreamId} {b : Word32} (fuel : Nat) {s : State} (h : ChainReady n b s)
    (hf : (pendingPages s n).length ≤ fuel) : Chain n s (chain fuel n s) := by
  induction fuel generalizing s with
  | zero =>
    refine Chain.nothing s fun p hp => ?_
    have hm := mem_pendingPages.2 hp
    rw [List.eq_nil_of_length_eq_zero (Nat.le_zero.1 hf)] at hm
    cases hm
  | succ fuel ih =>
    by_cases hsome : ∃ p, Pending s n p
    · obtain ⟨_, hany⟩ := hsome
      obtain ⟨p, hold⟩ := h.exists_oldest hany
      obtain ⟨hpend, _⟩ := id hold
      obtain ⟨_, hclosing | hsealed⟩ := id hpend
      · rw [chain_wait hold hclosing]
        exact Chain.wait s p hold hclosing
      · cases hd : (s.page p).damaged with
        | false =>
          have w := publish_published h hpend
          have hlt := pendingPages_length_lt w.ring hpend fun q hq => w.pending hq
          rw [chain_publish hold hsealed hd]
          refine Chain.publish s _ _ p hold hsealed hd w (ih (h.turn (fun q hq => ?_) ?_) (by omega))
          · obtain ⟨h1, _, h2⟩ := w.pending hq
            exact ⟨h1, h2⟩
          · exact w.ready (h.owned p hpend) h.ready
        | true =>
          have w := discard_discarded h hpend
          obtain ⟨hring, hready, hpages, _⟩ := w.rest
          have hlt := pendingPages_length_lt hring hpend fun q hq => w.pending hq
          rw [chain_discard hold hsealed hd]
          refine Chain.discard s _ _ p hold hsealed hd w (ih (h.turn (fun q hq => ?_) fun q hq => ?_) (by omega))
          · obtain ⟨h1, _, h2⟩ := w.pending hq
            exact ⟨h1, h2⟩
          · rw [hready] at hq
            rw [hpages q fun e => h.not_ready hpend (e ▸ hq)]
            exact h.ready q hq
    · have hnone : ∀ p, ¬ Pending s n p := fun p hp => hsome ⟨p, hp⟩
      rw [chain_nothing _ hnone]
      exact Chain.nothing s hnone

theorem runChain_chain {n : StreamId} {b : Word32} {s : State} (h : ChainReady n b s) : Chain n s (runChain n s) :=
  chain_chain _ h (Nat.le_refl _)

/-! ## The chain with one pending page and no ready one -/

section OnlyPending

variable {s : State} {n : StreamId} {p : PageId} (hring : p ∈ (s.stream n).ring) (hs : (s.page p).stage = .sealed)
  (honly : ∀ q ∈ (s.stream n).ring, q ≠ p → (s.page q).stage ≠ .closing ∧ (s.page q).stage ≠ .sealed)
  (hready : (s.stream n).ready = [])
include hring hs honly

theorem oldestPending_only : OldestPending s n p := by
  refine ⟨⟨hring, Or.inr hs⟩, fun q ⟨hq, hst⟩ hne => ?_⟩
  obtain ⟨h1, h2⟩ := honly q hq hne
  exact absurd hst (by simp [h1, h2])

theorem runChain_only (v : State)
    (hv : v = if (s.page p).damaged then discard n p s else publish n p s) (hvring : (v.stream n).ring = (s.stream n).ring)
    (hvpages : ∀ q, q ≠ p → v.page q = s.page q) (hvp : ¬ Pending v n p) : runChain n s = v := by
  have hold := oldestPending_only hring hs honly
  have hmem : p ∈ pendingPages s n := mem_pendingPages.2 hold.1
  unfold runChain
  obtain ⟨fuel, hfuel⟩ := Nat.exists_eq_succ_of_ne_zero (List.length_pos_of_mem hmem).ne'
  rw [hfuel, chain_succ hold, hs, if_pos (by decide), ← hv]
  refine chain_nothing fuel fun q hq => ?_
  by_cases hqp : q = p
  · exact hvp (hqp ▸ hq)
  · obtain ⟨hqr, hst⟩ := hq
    rw [hvring] at hqr
    rw [hvpages q hqp] at hst
    obtain ⟨h1, h2⟩ := honly q hqr hqp
    exact hst.elim h1 h2

include hready

/-- An undamaged page that is the only one pending is published, and with no other ready page is the newest one (R56). -/
theorem runChain_publishes (hd : (s.page p).damaged = false) :
    runChain n s = (s.modPage p fun pg => { pg with stage := .published }).modStream n
      fun st => { st with ready := [p], published := st.published + 1 } := by
  have hpub : publish n p s = (s.modPage p fun pg => { pg with stage := .published }).modStream n
      fun st => { st with ready := [p], published := st.published + 1 } := by
    have hstate : (s.modPage p fun pg => { pg with stage := .published }).modStream n
          (fun st => { st with ready := st.ready ++ [p], published := st.published + 1 })
        = (s.modPage p fun pg => { pg with stage := .published }).modStream n
          fun st => { st with ready := [p], published := st.published + 1 } :=
      modStream_congr (by simp [hready])
    unfold publish
    dsimp only
    rw [hstate]
    unfold retireAll
    rw [modStream_stream_same]
    show retireTest n _ p = _
    unfold retireTest
    rw [if_neg]
    simp [retires]
  refine runChain_only hring hs honly _ (by rw [hd, if_neg Bool.false_ne_true, hpub]) (by simp) (fun q hq => by simp [hq]) ?_
  exact released_not_pending (by simp)

/-- A damaged one is discarded (R57). -/
theorem runChain_discards (ho : (s.page p).owner = some n) (hd : (s.page p).damaged = true) :
    runChain n s =
      ((s.modStream n fun st => { st with damaged := st.damaged + 1 }).raise
        { kind := .frameDamaged, stream := some n, page := some p, frame := (s.page p).frame }).modPage p
      Page.released := by
  have hdis : discard n p s =
      ((s.modStream n fun st => { st with damaged := st.damaged + 1 }).raise
        { kind := .frameDamaged, stream := some n, page := some p, frame := (s.page p).frame }).modPage p
      Page.released := by
    unfold discard
    exact release_notReady (n := n) (by simpa using ho) (by simp [hready])
  refine runChain_only hring hs honly _ (by rw [hd, if_pos rfl, hdis]) (by simp) (fun q hq => by simp [hq]) ?_
  refine released_not_pending ?_
  rw [modPage_page_same]
  exact (Page.released_stage _).imp_right Or.inl

end OnlyPending

end Sys2Proof.Machine

/-! PROOFS. What a port presents, and the completion of the last write of a CLOSING page (O49). -/

namespace Sys2Proof.Machine

/-! ## Presentation (R128, R129) -/

/-- Entry e is deliverable behind the entries `older`, with these transaction IDs blocked by entries before them. -/
def DeliverableBehind (s : State) (blocked : List (BitVec 4)) (older : List EntryId) (e : EntryId) : Prop :=
  Deliverable s older e ∧ (s.entry e).id ∉ blocked

theorem deliverableBehind_nil {s : State} {blocked : List (BitVec 4)} {e : EntryId} :
    DeliverableBehind s blocked [] e ↔ (s.entry e).state = .doneWaiting ∧ (s.entry e).id ∉ blocked := by
  simp [DeliverableBehind, Deliverable]

/-- An undelivered entry blocks its transaction ID for those behind it; another entry blocks nothing. -/
theorem deliverableBehind_cons {s : State} {blocked : List (BitVec 4)} {a : EntryId} {older : List EntryId} {e : EntryId} :
    DeliverableBehind s blocked (a :: older) e ↔
      DeliverableBehind s (if (s.entry a).undelivered then (s.entry a).id :: blocked else blocked) older e := by
  unfold DeliverableBehind Deliverable
  by_cases ha : (s.entry a).undelivered = true
  · simp only [List.mem_cons, forall_eq_or_imp, ha, if_true, true_implies, not_or, ne_eq]
    constructor
    · rintro ⟨⟨h1, h2, h3⟩, h4⟩
      exact ⟨⟨h1, h3⟩, fun k => h2 k.symm, h4⟩
    · rintro ⟨⟨h1, h3⟩, h2, h4⟩
      exact ⟨⟨h1, fun k => h2 k.symm, h3⟩, h4⟩
  · simp [ha]

theorem firstDeliverable_cons (s : State) (blocked : List (BitVec 4)) (a : EntryId) (rest : List EntryId) :
    firstDeliverable s blocked (a :: rest) =
      if (s.entry a).state = .doneWaiting ∧ (s.entry a).id ∉ blocked then some a
      else firstDeliverable s (if (s.entry a).undelivered then (s.entry a).id :: blocked else blocked) rest := by
  rw [firstDeliverable]
  by_cases h : (s.entry a).state = .doneWaiting ∧ (s.entry a).id ∉ blocked
  · rw [if_pos h, if_pos (by simpa using h)]
  · rw [if_neg h, if_neg (by simpa using h)]
    split <;> rfl

/-- The search finds the first entry of the list that is deliverable behind those before it. -/
theorem firstDeliverable_iff {s : State} {blocked : List (BitVec 4)} {l : List EntryId} {e : EntryId} :
    firstDeliverable s blocked l = some e ↔
      ∃ older younger, l = older ++ e :: younger ∧ DeliverableBehind s blocked older e
        ∧ ∀ front d back, older = front ++ d :: back → ¬ DeliverableBehind s blocked front d := by
  induction l generalizing blocked with
  | nil =>
    refine ⟨fun h => (by cases h), ?_⟩
    rintro ⟨older, younger, h, _⟩
    simp at h
  | cons a rest ih =>
    rw [firstDeliverable_cons]
    by_cases ha : (s.entry a).state = .doneWaiting ∧ (s.entry a).id ∉ blocked
    · rw [if_pos ha]
      replace ha := deliverableBehind_nil.2 ha
      constructor
      · intro h
        cases h
        exact ⟨[], rest, rfl, ha, fun front d back hn => by simp at hn⟩
      · rintro ⟨older, younger, hl, _, hfirst⟩
        cases older with
        | nil => exact congrArg some (List.cons.inj hl).1
        | cons b older =>
          obtain ⟨rfl, _⟩ := List.cons.inj hl
          exact absurd ha (hfirst [] a older rfl)
    · rw [if_neg ha, ih]
      rw [← deliverableBehind_nil] at ha
      constructor
      · rintro ⟨older, younger, rfl, he, hfirst⟩
        refine ⟨a :: older, younger, rfl, deliverableBehind_cons.2 he, fun front d back hsplit => ?_⟩
        cases front with
        | nil =>
          obtain ⟨rfl, _⟩ := List.cons.inj hsplit
          exact ha
        | cons b front =>
          obtain ⟨rfl, htail⟩ := List.cons.inj hsplit
          exact fun k => hfirst front d back htail (deliverableBehind_cons.1 k)
      · rintro ⟨older, younger, hl, he, hfirst⟩
        cases older with
        | nil =>
          obtain ⟨rfl, _⟩ := List.cons.inj hl
          exact absurd he ha
        | cons b older =>
          obtain ⟨rfl, htail⟩ := List.cons.inj hl
          exact ⟨older, younger, htail, deliverableBehind_cons.1 he, fun front d back hsplit k =>
            hfirst (a :: front) d back (by rw [hsplit]; rfl) (deliverableBehind_cons.2 k)⟩

theorem firstDeliverable_oldest {s : State} {p : PortId} {e : EntryId} :
    firstDeliverable s [] (s.port p).order = some e ↔ OldestDeliverable s p e := by
  rw [firstDeliverable_iff]
  simp [OldestDeliverable, DeliverableBehind]

/-- Presentation writes what port p presents and nothing else. -/
theorem present_eq (p : PortId) (s : State) :
    ∃ x, present p s = s.modPort p (fun po => { po with presented := x })
      ∧ ((s.port p).presented ≠ none → x = (s.port p).presented)
      ∧ ((s.port p).presented = none → x = firstDeliverable s [] (s.port p).order) := by
  rcases present_cases p s with ⟨e, he, h⟩ | ⟨hn, h⟩
  · refine ⟨some e, ?_, fun _ => he.symm, fun k => ?_⟩
    · rw [h, modPort_self]
      rw [← he]
    · rw [he] at k
      cases k
  · exact ⟨_, h, fun k => absurd hn k, fun _ => rfl⟩

/-- What presentation does (R129). -/
theorem present_presents (p : PortId) (s : State) : Presents (s.port p).presented p (present p s) := by
  obtain ⟨x, h, hsome, hnone⟩ := present_eq p s
  rw [h]
  refine ⟨fun k => ?_, fun k e => ?_⟩
  · rw [modPort_port_same]
    exact hsome k
  · have hold : OldestDeliverable (s.modPort p fun po => { po with presented := x }) p e ↔ OldestDeliverable s p e := by
      unfold OldestDeliverable
      rw [modPort_port_same]
      exact Iff.rfl
    rw [hold, ← firstDeliverable_oldest, modPort_port_same, ← hnone k]

/-- What presentation writes, with what it does. -/
theorem present_leaves (p : PortId) (s : State) :
    ∃ x, present p s = s.modPort p (fun po => { po with presented := x })
      ∧ Presents (s.port p).presented p (present p s) := by
  obtain ⟨x, hx, _⟩ := present_eq p s
  exact ⟨x, hx, present_presents p s⟩

/-- While something holds a datapath that is QUIESCING, it stays so (R133). -/
theorem endQuiesce_held {s : State} (h : s.datapath = .quiescing → ∃ e, (s.entry e).holdsQuiesce = true) :
    endQuiesce s = s := by
  unfold endQuiesce
  refine if_neg fun k => ?_
  simp only [Bool.and_eq_true, beq_iff_eq, Bool.not_eq_true', List.any_eq_false] at k
  obtain ⟨hq, hnone⟩ := k
  obtain ⟨e, he⟩ := h hq
  exact hnone e (List.mem_finRange e) he

/-! ## The completion of a piece (R125, R126, R127) -/

/-- The completion of an outstanding piece is routed to it. -/
theorem outstandingPiece_eq {s : State} {c : Completion} {e : EntryId} {second : Bool} {pc : Piece}
    (ht : c.tag.toNat = 2 * e.val + second.toNat) (hp : (s.entry e).piece second = some pc)
    (ho : pc.status = .outstanding) : outstandingPiece s c = some (⟨e, second⟩, pc) := by
  have hlt : c.tag.toNat < 96 := by
    have := e.isLt
    cases second <;> simp at ht <;> omega
  have href : refOfTag c.tag = some ⟨e, second⟩ := by
    unfold refOfTag
    rw [dif_pos hlt]
    congr 2
    · apply Fin.ext
      cases second <;> simp at ht ⊢ <;> omega
    · cases second <;> simp at ht ⊢ <;> omega
  unfold outstandingPiece
  rw [href]
  dsimp only
  rw [hp]
  exact if_pos (beq_iff_eq.2 ho)

/-- A completion that names an outstanding piece completes it, with the re-test behind it (R122, R125). -/
theorem exec_completion {s : State} {c : Completion} {e : EntryId} {second : Bool} {pc : Piece} (hr : s.resetn = true)
    (ht : c.tag.toNat = 2 * e.val + second.toNat) (hp : (s.entry e).piece second = some pc)
    (ho : pc.status = .outstanding) :
    exec (.downstreamCompletion c) s = .next (testWaiting (completePiece ⟨e, second⟩ pc c s)) := by
  show Host.Outcome.next (if s.resetn then complete c s else s) = _
  rw [if_pos hr]
  unfold complete
  rw [outstandingPiece_eq ht hp ho]

/-- The reports of a completed piece: none when it is OK, those of R126 when it fails. -/
def pieceReported (en : Entry) (pc : Piece) (c : Completion) (s : State) : State :=
  match checkedStatus en.kind pc.length c with
  | .ok => s
  | .error => failPiece en pc s

/-- An entry that has no piece in flight any more is settled. -/
def settleDone (e : EntryId) (s : State) : State := if (s.entry e).inFlight then s else settleEntry e s

theorem checkedStatus_write (length : Nat) (c : Completion) : checkedStatus .write length c = c.status := by
  unfold checkedStatus
  cases c.status <;> rfl

theorem pieceReported_ok {en : Entry} {c : Completion} (pc : Piece) (s : State) (hk : en.kind = .write)
    (hc : c.status = .ok) : pieceReported en pc c s = s := by
  unfold pieceReported
  rw [hk, checkedStatus_write, hc]

theorem pieceReported_error {en : Entry} {c : Completion} (pc : Piece) (s : State) (hk : en.kind = .write)
    (hc : c.status = .error) : pieceReported en pc c s = failPiece en pc s := by
  unfold pieceReported
  rw [hk, checkedStatus_write, hc]

/-- The reports read and write nothing of the transaction table. -/
theorem failPiece_modEntry (en : Entry) (pc : Piece) (s : State) (e : EntryId) (f : Entry → Entry) :
    failPiece en pc (s.modEntry e f) = (failPiece en pc s).modEntry e f := by
  have hraise : ((s.modEntry e f).modPort en.port fun po => { po with faults := po.faults + 1 }).raise (faultRecord en pc)
      = ((s.modPort en.port fun po => { po with faults := po.faults + 1 }).raise (faultRecord en pc)).modEntry e f :=
    raise_modEntry (s.modPort en.port fun po => { po with faults := po.faults + 1 }) e f _
  unfold failPiece
  rw [hraise]
  unfold reportDamage
  split <;> rfl

theorem failPiece_entries (en : Entry) (pc : Piece) (s : State) : (failPiece en pc s).entries = s.entries := by
  unfold failPiece reportDamage
  split <;> simp

theorem pieceReported_entry (en : Entry) (pc : Piece) (c : Completion) (s : State) (e : EntryId) :
    (pieceReported en pc c s).entry e = s.entry e := by
  unfold pieceReported
  split
  · rfl
  · simp [State.entry, failPiece_entries]

/-- A completion step by step: reports, status and data of the piece, the end of the entry, the end of a quiesce,
presentation. -/
theorem completePiece_eq (r : PieceRef) (pc : Piece) (c : Completion) (s : State) :
    completePiece r pc c s =
      present (s.entry r.entry).port (endQuiesce (settleDone r.entry
        ((pieceReported (s.entry r.entry) pc c s).modEntry r.entry fun en =>
          en.modPiece r.second fun pc => pc.complete en c))) := by
  unfold completePiece pieceReported settleDone
  dsimp only
  cases checkedStatus (s.entry r.entry).kind pc.length c with
  | ok => rfl
  | error =>
    dsimp only
    rw [failPiece_modEntry]

/-- A failing WRITE piece of an APERTURE entry: counter, DOWNSTREAM_FAULT, damage (R126, R35). -/
theorem failPiece_write {en : Entry} {g : Target} (hk : en.kind = .write) (ht : en.target = some g) (pc : Piece)
    (s : State) :
    failPiece en pc s =
      ((s.modPort en.port fun po => { po with faults := po.faults + 1 }).raise (faultRecord en pc)).modPage g.page
        Page.markDamaged := by
  unfold failPiece reportDamage
  rw [hk, ht]

theorem Page.markDamaged_eq (pg : Page) :
    pg.markDamaged = { pg with damaged := if pg.stage = .filling ∨ pg.stage = .closing then true else pg.damaged } := by
  unfold Page.markDamaged
  by_cases h : pg.stage = .filling ∨ pg.stage = .closing
  · rw [if_pos (by simpa using h), if_pos h]
  · rw [if_neg (by simpa using h), if_neg h]

/-- The reports of the model are those of the claims. -/
theorem failPiece_reported (en : Entry) (pc : Piece) (s : State) : FailureReported en pc.addr s (failPiece en pc s) := by
  refine ⟨_, raise_raisedOnly _ (faultRecord en pc), fun h => ?_, fun g hk ht => ?_⟩
  · unfold failPiece reportDamage
    rcases h with h | h <;> rw [h]
    cases en.kind <;> rfl
  · rw [failPiece_write hk ht]
    exact modPage_congr (Page.markDamaged_eq _)

/-! ## The last write of a CLOSING page -/

theorem pieceReported_datapath (en : Entry) (pc : Piece) (c : Completion) (s : State) :
    (pieceReported en pc c s).datapath = s.datapath := by
  unfold pieceReported failPiece reportDamage
  split
  · rfl
  · split <;> simp

theorem pieceReported_streams (en : Entry) (pc : Piece) (c : Completion) (s : State) :
    (pieceReported en pc c s).streams = s.streams := by
  unfold pieceReported failPiece reportDamage
  split
  · rfl
  · split <;> simp

/-- A page with its last write gone that seals (R29, R30). -/
def Page.sealedLast (pg : Page) : Page := { pg with writeCount := 0, stage := .sealed }

theorem lowerCount_seals {s : State} {p : PageId} {n : StreamId} (ho : (s.page p).owner = some n)
    (hs : (s.page p).stage = .closing) (hw : (s.page p).writeCount = 1) :
    lowerCount .write p s = runChain n (s.modPage p Page.sealedLast) := by
  unfold lowerCount examinePage
  simp only [modPage_page_same, Page.lowerCount, hs, ho, hw]
  rw [if_pos (by decide)]
  unfold sealPage
  rw [modPage_modPage]
  congr 1
  apply modPage_congr
  simp [Page.sealedLast, Page.lowerCount, hw]

theorem settleEntry_issued {e : EntryId} {s : State} (h : (s.entry e).state = .issued) :
    settleEntry e s = lowerTarget (s.entry e) (s.modEntry e Entry.finish) := by
  unfold settleEntry
  dsimp only
  rw [h]

/-- The entry of a single piece once that has completed and the response is prepared (R126, R127). -/
def Entry.answered (en : Entry) (pc : Piece) (c : Completion) : Entry :=
  ({ en with pieces := [pc.complete en c] } : Entry).finish

theorem Piece.complete_status (pc : Piece) (en : Entry) (c : Completion) :
    (pc.complete en c).status = .ok ∨ (pc.complete en c).status = .error := by
  unfold Piece.complete
  dsimp only
  split
  · exact Or.inl rfl
  · exact Or.inr rfl

section LastWrite

variable {c : Completion} {e : EntryId} {pc : Piece} {g : Target} {n : StreamId} {s : State}
  (hissued : (s.entry e).state = .issued) (hkind : (s.entry e).kind = .write) (hpieces : (s.entry e).pieces = [pc])
  (htarget : (s.entry e).target = some g)

/-- The part once the reports are made, the entry is answered and the page has sealed, before the publication chain. -/
def sealedState (e : EntryId) (pc : Piece) (c : Completion) (p : PageId) (s : State) : State :=
  ((pieceReported (s.entry e) pc c s).modEntry e fun _ => (s.entry e).answered pc c).modPage p Page.sealedLast

theorem sealedState_stream (m : StreamId) {p : PageId} : (sealedState e pc c p s).stream m = s.stream m := by
  show (pieceReported (s.entry e) pc c s).stream m = _
  simp [State.stream, pieceReported_streams]

theorem sealedState_entry_other {d : EntryId} (h : d ≠ e) {p : PageId} :
    (sealedState e pc c p s).entry d = s.entry d := by
  unfold sealedState
  rw [modPage_entry, modEntry_entry_other _ h, pieceReported_entry]

theorem pieceReported_page_write (hkind : (s.entry e).kind = .write) (htarget : (s.entry e).target = some g) (q : PageId) :
    (pieceReported (s.entry e) pc c s).page q =
      if c.status = .error ∧ q = g.page then (s.page q).markDamaged else s.page q := by
  unfold pieceReported
  rw [hkind, checkedStatus_write]
  cases c.status with
  | ok => simp
  | error =>
    dsimp only
    rw [failPiece_write hkind htarget, modPage_page]
    by_cases hq : q = g.page
    · simp [hq]
    · simp [hq]

include hissued hkind hpieces htarget

/-- The completion of the last write in flight on a CLOSING page: reports, response, seal and publication chain, then the
presentation. -/
theorem completePiece_lastWrite (ho : (s.page g.page).owner = some n) (hs : (s.page g.page).stage = .closing)
    (hw : (s.page g.page).writeCount = 1) :
    completePiece ⟨e, false⟩ pc c s =
      present (s.entry e).port (endQuiesce (runChain n (sealedState e pc c g.page s))) := by
  have hmod : ∀ u : State, u.entry e = s.entry e →
      u.modEntry e (fun en => en.modPiece false fun pc => pc.complete en c)
        = u.modEntry e fun _ => { s.entry e with pieces := [pc.complete (s.entry e) c] } := fun u hu =>
    modEntry_congr (by rw [hu]; simp [Entry.modPiece, hpieces])
  have hpage : ∀ q, (pieceReported (s.entry e) pc c s).page q = s.page q
      ∨ (pieceReported (s.entry e) pc c s).page q = (s.page q).markDamaged := fun q => by
    rw [pieceReported_page_write hkind htarget]
    split
    · exact Or.inr rfl
    · exact Or.inl rfl
  have hlower : ∀ u : State, lowerTarget { s.entry e with pieces := [pc.complete (s.entry e) c] } u
      = lowerCount .write g.page u := fun u => by
    unfold lowerTarget
    simp only [htarget, hkind]
  rw [completePiece_eq, hmod _ (pieceReported_entry _ _ _ _ _)]
  unfold settleDone
  generalize hu : pieceReported (s.entry e) pc c s = u at hpage
  rw [if_neg, settleEntry_issued, modEntry_modEntry]
  · congr 2
    rw [modEntry_entry_same]
    rw [hlower, lowerCount_seals (n := n)]
    · unfold sealedState
      rw [hu]
      rfl
    all_goals
      rw [modEntry_page]
      rcases hpage g.page with h | h <;> rw [h]
      · assumption
      · rw [Page.markDamaged_eq]
        assumption
  · rw [modEntry_entry_same]
    exact hissued
  · rw [modEntry_entry_same]
    rcases Piece.complete_status pc (s.entry e) c with h | h <;> simp [Entry.inFlight, h]

/-- With the datapath held by what held it before, the event ends with the chain and the presentation. -/
theorem exec_lastWrite (hr : s.resetn = true) (htag : c.tag.toNat = 2 * e.val) (hout : pc.status = .outstanding)
    (hq : QuiesceLaw s) (ho : (s.page g.page).owner = some n) (hs : (s.page g.page).stage = .closing)
    (hw : (s.page g.page).writeCount = 1) :
    exec (.downstreamCompletion c) s =
      .next (testWaiting (present (s.entry e).port (runChain n (sealedState e pc c g.page s)))) := by
  rw [exec_completion (second := false) hr htag (by simp [Entry.piece, hpieces]) hout,
    completePiece_lastWrite hissued hkind hpieces htarget ho hs hw, endQuiesce_held]
  intro hd
  have hframe := runChain_frame n (sealedState e pc c g.page s)
  have hdatapath : s.datapath = .quiescing := by
    rw [← pieceReported_datapath (s.entry e) pc c s, ← hd, hframe.datapath]
    rfl
  obtain ⟨d, hd⟩ := hq.1 hdatapath
  have hde : d ≠ e := fun h => by simp [h, Entry.holdsQuiesce, hissued] at hd
  refine ⟨d, ?_⟩
  have hentry : (runChain n (sealedState e pc c g.page s)).entry d = (sealedState e pc c g.page s).entry d := by
    rw [State.entry, hframe.entries]
    rfl
  rw [hentry, sealedState_entry_other hde]
  exact hd

end LastWrite

/-! ### The response of the entry -/

theorem Piece.complete_write {pc : Piece} {en : Entry} {c : Completion} (hk : en.kind = .write) :
    (pc.complete en c).status = if c.status = .ok then .ok else .error := by
  unfold Piece.complete
  rw [hk, checkedStatus_write]
  cases c.status <;> rfl

theorem answered_prepared_ok {en : Entry} {pc : Piece} {c : Completion} (hk : en.kind = .write) (hc : c.status = .ok) :
    (en.answered pc c).prepared = some { status := .done, reason := none, data := [] } := by
  have hs : (pc.complete en c).status = .ok := by simp [Piece.complete_write hk, hc]
  simp [Entry.answered, Entry.finish, finalResponse, hs, mergedData, hk]

theorem answered_prepared_error {en : Entry} {pc : Piece} {c : Completion} (hk : en.kind = .write)
    (hc : c.status = .error) : (en.answered pc c).prepared = some { status := .fault, reason := none, data := [] } := by
  have hs : (pc.complete en c).status = .error := by simp [Piece.complete_write hk, hc]
  simp [Entry.answered, Entry.finish, finalResponse, hs]

/-! ### The sealed page in its ring -/

section Sealed

variable {c : Completion} {e : EntryId} {pc : Piece} {g : Target} {n : StreamId} {s : State}
  (hkind : (s.entry e).kind = .write) (htarget : (s.entry e).target = some g)
include hkind htarget

/-- The page that sealed differs from the page before in its count, its stage and, when the write failed, its damage. -/
theorem sealedState_page (hs : (s.page g.page).stage = .closing) :
    (sealedState e pc c g.page s).page g.page =
      { s.page g.page with
        writeCount := 0, stage := .sealed,
        damaged := if c.status = .error then true else (s.page g.page).damaged } := by
  unfold sealedState
  rw [modPage_page_same, modEntry_page, pieceReported_page_write hkind htarget]
  by_cases hc : c.status = .error <;> simp [hc, Page.sealedLast, Page.markDamaged_eq, hs]

theorem sealedState_page_other {q : PageId} (hq : q ≠ g.page) : (sealedState e pc c g.page s).page q = s.page q := by
  unfold sealedState
  rw [modPage_page_other _ hq, modEntry_page, pieceReported_page_write hkind htarget, if_neg fun h => hq h.2]

/-- Before the page seals it was pending already, so the pending pages and their frames are the same. -/
theorem sealedState_pending (hs : (s.page g.page).stage = .closing) {q : PageId}
    (hq : Pending (sealedState e pc c g.page s) n q) :
    Pending s n q ∧ ((sealedState e pc c g.page s).page q).frame = (s.page q).frame
      ∧ ((sealedState e pc c g.page s).page q).owner = (s.page q).owner := by
  obtain ⟨hring, hst⟩ := hq
  rw [sealedState_stream] at hring
  by_cases hqg : q = g.page
  · subst hqg
    rw [sealedState_page hkind htarget hs]
    exact ⟨⟨hring, Or.inl hs⟩, rfl, rfl⟩
  · rw [sealedState_page_other hkind htarget hqg] at hst ⊢
    exact ⟨⟨hring, hst⟩, rfl, rfl⟩

/-- In a safe state the publication chain behind the seal finds its pages in order. -/
theorem sealedState_chainReady (hpool : PoolLaw s) (hrecent : FramesRecent s) (horder : FramesInOrder s)
    (hs : (s.page g.page).stage = .closing) :
    ChainReady n (s.stream n).nextFrame (sealedState e pc c g.page s) := by
  obtain ⟨hring, _, _, hready, _, hstage, _⟩ := hpool
  refine ⟨fun p hp => ?_, fun q hq => ?_, fun p hp => ?_, fun p q hp hq hne => ?_⟩
  · obtain ⟨⟨hmem, _⟩, _, ho⟩ := sealedState_pending hkind htarget hs hp
    rw [ho]
    exact hring.owner hmem
  · rw [sealedState_stream] at hq
    obtain ⟨hmem, hpub⟩ := ((hready n).2 q).1 hq
    have hqg : q ≠ g.page := fun h => by
      rw [h, hs] at hpub
      cases hpub
    rw [sealedState_page_other hkind htarget hqg]
    exact ⟨hpub, hring.owner hmem⟩
  · obtain ⟨⟨hmem, hst⟩, hf, _⟩ := sealedState_pending hkind htarget hs hp
    obtain ⟨hframe, _⟩ := hstage p
    obtain ⟨f, hsome⟩ := Option.ne_none_iff_exists'.1 (hframe.2 (hst.imp_right Or.inl))
    exact ⟨f, hf.trans hsome, hrecent n p hmem f hsome⟩
  · obtain ⟨hp', hfp, _⟩ := sealedState_pending hkind htarget hs hp
    obtain ⟨hq', hfq, _⟩ := sealedState_pending hkind htarget hs hq
    rw [hfp, hfq]
    obtain ⟨_, _, hdistinct⟩ := horder n
    exact hdistinct p q hp' hq' hne

end Sealed

/-! ### The only pending page (R56, R57) -/

section OnlyPage

variable {c : Completion} {e : EntryId} {pc : Piece} {g : Target} {s : State} (hr : s.resetn = true)
  (htag : c.tag.toNat = 2 * e.val) (hissued : (s.entry e).state = .issued) (hkind : (s.entry e).kind = .write)
  (hpieces : (s.entry e).pieces = [pc]) (hout : pc.status = .outstanding) (htarget : (s.entry e).target = some g)
  (hrole : g.role = .producer) (ho : (s.page g.page).owner = some g.stream) (hs : (s.page g.page).stage = .closing)
  (hw : (s.page g.page).writeCount = 1)
  (hring : g.page ∈ (s.stream g.stream).ring)
  (honly : ∀ q ∈ (s.stream g.stream).ring, q ≠ g.page → (s.page q).stage ≠ .closing ∧ (s.page q).stage ≠ .sealed)
  (hready : (s.stream g.stream).ready = []) (hq : QuiesceLaw s)

include hkind htarget honly in
theorem sealedState_only : ∀ q ∈ ((sealedState e pc c g.page s).stream g.stream).ring, q ≠ g.page →
    ((sealedState e pc c g.page s).page q).stage ≠ .closing ∧ ((sealedState e pc c g.page s).page q).stage ≠ .sealed := by
  intro q hq hne
  rw [sealedState_stream] at hq
  rw [sealedState_page_other hkind htarget hne]
  exact honly q hq hne

include hr htag hissued hkind hpieces hout htarget ho hs hw hring honly hready hq

/-- An OK write publishes the frame. -/
theorem lastWrite_ok (hd : (s.page g.page).damaged = false) (hc : c.status = .ok) :
    ∃ t u, exec (.downstreamCompletion c) s = .next u ∧ Retested t u
      ∧ t.page g.page = { s.page g.page with stage := .published, writeCount := 0 }
      ∧ t.stream g.stream =
        { s.stream g.stream with ready := [g.page], published := (s.stream g.stream).published + 1 }
      ∧ OtherPages [g.page] s t ∧ OtherStreams g.stream s t ∧ OtherEntries e s t
      ∧ Presents (s.port (s.entry e).port).presented (s.entry e).port t
      ∧ (t.entry e).prepared = some { status := .done, reason := none, data := [] }
      ∧ SameEvents s t ∧ t.links = s.links ∧ SamePort s t := by
  have hpage := sealedState_page (pc := pc) (c := c) hkind htarget hs
  have hreported := pieceReported_ok pc s hkind hc
  have hexec := exec_lastWrite hissued hkind hpieces htarget hr htag hout hq ho hs hw
  generalize hv : runChain g.stream (sealedState e pc c g.page s) = v at hexec
  rw [runChain_publishes (by rwa [sealedState_stream]) (by rw [hpage]) (sealedState_only hkind htarget honly)
    (by rwa [sealedState_stream]) (by rw [hpage]; simpa [hc] using hd)] at hv
  unfold sealedState at hv
  rw [hreported] at hv
  obtain ⟨x, hx, hpres⟩ := present_leaves (s.entry e).port v
  subst hv
  refine ⟨_, _, hexec, testWaiting_retested _, ?_⟩
  refine ⟨?_, ?_, fun q hne => ?_, fun m hm => ?_, fun d hne => ?_, hpres, ?_, ?_, ?_, ?_⟩ <;> rw [hx]
  · simp [Page.sealedLast]
  · simp
  · have hne' : q ≠ g.page := by simpa using hne
    simp [hne']
  · simp [hm]
  · simp [hne]
  · rw [modPort_entry, modStream_entry, modPage_entry, modPage_entry, modEntry_entry_same]
    exact answered_prepared_ok hkind hc
  · exact ⟨rfl, rfl, rfl, rfl, rfl⟩
  · rfl
  · exact ⟨rfl, rfl, rfl, rfl, rfl, rfl⟩

include hrole in
/-- A failing one discards it, with DOWNSTREAM_FAULT before FRAME_DAMAGED. -/
theorem lastWrite_error (hc : c.status = .error) :
    ∃ u t w, exec (.downstreamCompletion c) s = .next w ∧ Retested t w
      ∧ t.page g.page =
        { s.page g.page with
          stage := if (s.page g.page).readCount = 0 then .free else .retiring, writeCount := 0, damaged := true,
          frame := none, holdA := false, holdB := false }
      ∧ t.stream g.stream = { s.stream g.stream with damaged := (s.stream g.stream).damaged + 1 }
      ∧ OtherPages [g.page] s t ∧ OtherStreams g.stream s t ∧ OtherEntries e s t
      ∧ Presents (s.port (s.entry e).port).presented (s.entry e).port t
      ∧ (t.entry e).prepared = some { status := .fault, reason := none, data := [] }
      ∧ Raised
          { kind := .downstreamFault, port := some (s.entry e).port, tag := some (s.entry e).tag,
            addr := some pc.addr, stream := some g.stream, page := some g.page } s u
      ∧ SameSettings s u
      ∧ Raised { kind := .frameDamaged, stream := some g.stream, page := some g.page, frame := (s.page g.page).frame } u t
      ∧ SameSettings s t ∧ t.links = s.links ∧ SamePort s t := by
  have hpage := sealedState_page (pc := pc) (c := c) hkind htarget hs
  have hreported := pieceReported_error pc s hkind hc
  have hrecord : faultRecord (s.entry e) pc =
      { kind := .downstreamFault, port := some (s.entry e).port, tag := some (s.entry e).tag,
        addr := some pc.addr, stream := some g.stream, page := some g.page } := by
    simp [faultRecord, htarget, Target.slotId, hrole]
  rw [failPiece_write hkind htarget, hrecord] at hreported
  obtain ⟨u, hu⟩ : ∃ u, u = (s.modPort (s.entry e).port fun po => { po with faults := po.faults + 1 }).raise
      { kind := .downstreamFault, port := some (s.entry e).port, tag := some (s.entry e).tag,
        addr := some pc.addr, stream := some g.stream, page := some g.page } := ⟨_, rfl⟩
  rw [← hu] at hreported
  have hfault := raised_raise (s.modPort (s.entry e).port fun po => { po with faults := po.faults + 1 })
    { kind := .downstreamFault, port := some (s.entry e).port, tag := some (s.entry e).tag,
      addr := some pc.addr, stream := some g.stream, page := some g.page }
  rw [← hu] at hfault
  have hpages : ∀ q, u.page q = s.page q := fun q => by simp [hu]
  have hstreams : ∀ m, u.stream m = s.stream m := fun m => by simp [hu]
  have hentries : ∀ d, u.entry d = s.entry d := fun d => by simp [hu]
  have hpresented : (u.port (s.entry e).port).presented = (s.port (s.entry e).port).presented := by
    simp [hu]
  have hsettings : SameSettings s u := by simp [hu, SameSettings]
  have hexec := exec_lastWrite hissued hkind hpieces htarget hr htag hout hq ho hs hw
  generalize hv : runChain g.stream (sealedState e pc c g.page s) = v at hexec
  rw [runChain_discards (by rwa [sealedState_stream]) (by rw [hpage]) (sealedState_only hkind htarget honly)
    (by rwa [sealedState_stream]) (by rw [hpage]; exact ho) (by rw [hpage]; exact if_pos hc), hpage] at hv
  unfold sealedState at hv
  rw [hreported] at hv
  obtain ⟨x, hx, hpres⟩ := present_leaves (s.entry e).port v
  have hwas : (v.port (s.entry e).port).presented = (s.port (s.entry e).port).presented := by
    rw [← hv]
    simp [hpresented]
  rw [hwas] at hpres
  have hdamaged := raised_raise
    ((((u.modPage g.page Page.markDamaged).modEntry e fun _ => (s.entry e).answered pc c).modPage g.page
      Page.sealedLast).modStream g.stream fun st => { st with damaged := st.damaged + 1 })
    { kind := .frameDamaged, stream := some g.stream, page := some g.page, frame := (s.page g.page).frame }
  refine ⟨u, _, _, hexec, testWaiting_retested _, ?_⟩
  subst hv
  refine ⟨?_, ?_, fun q hne => ?_, fun m hm => ?_, fun d hne => ?_, ?_, ?_, hfault.congr rfl rfl rfl rfl rfl rfl rfl rfl,
    hsettings, ?_, ?_, ?_, ?_⟩
  · rw [hx]
    simp [Page.released_eq, Page.sealedLast, Page.markDamaged_eq, hpages, hs]
  · rw [hx]
    simp [hstreams]
  · have hne' : q ≠ g.page := by simpa using hne
    rw [hx]
    simp [hne', hpages]
  · rw [hx]
    simp [hm, hstreams]
  · rw [hx]
    simp [hne, hentries]
  · exact hpres
  · rw [hx]
    simpa using answered_prepared_error hkind hc
  · rw [hx]
    exact hdamaged.congr rfl rfl rfl rfl rfl rfl rfl rfl
  · rw [hx]
    simp [SameSettings, hu]
  · rw [hx]
    simp [hu]
  · rw [hx]
    simp [SamePort, hu]

end OnlyPage

/-- Settles O49: in both parts the event is the reports, the seal, the publication chain and the presentation; where the page
is the only one pending the chain has one turn, and in a safe state it is the chain of R55. -/
theorem lastWriteSealsTheFrame : Obligations.LastWriteSealsTheFrame := by
  constructor
  · intro c e pc g n q s hr htag hissued hkind hpieces hout htarget hgq hrole hgn ho hs hw hd hring honly hready hq
    subst hgq hgn
    exact ⟨lastWrite_ok hr htag hissued hkind hpieces hout htarget ho hs hw hring honly hready hq hd,
      lastWrite_error hr htag hissued hkind hpieces hout htarget hrole ho hs hw hring honly hready hq⟩
  · intro c e pc g n s hsafe hrecent horder hr htag hissued hkind hpieces hout htarget ho hs hw
    obtain ⟨_, _, _, _, _, hpool, _, hquiesce, _⟩ := hsafe
    obtain ⟨x, hx, _⟩ := present_leaves (s.entry e).port (runChain n (sealedState e pc c g.page s))
    refine ⟨pieceReported (s.entry e) pc c s, sealedState e pc c g.page s, _, _, _,
      exec_lastWrite hissued hkind hpieces htarget hr htag hout hquiesce ho hs hw, testWaiting_retested _,
      pieceReported_ok pc s hkind, fun hc => ?_, ?_,
      runChain_chain (sealedState_chainReady hkind htarget hpool hrecent horder hs), ?_⟩
    · rw [pieceReported_error pc s hkind hc]
      exact failPiece_reported _ _ _
    · have hentry : (sealedState e pc c g.page s).entry e = (s.entry e).answered pc c := by simp [sealedState]
      rw [hentry]
      rfl
    · rw [hx, modPort_port_same]

end Sys2Proof.Machine

/-! PROOFS. Every operation of the transaction table keeps its law, and what each does to the number of entries in flight on a
page (R28, R120 to R132). -/

namespace Sys2Proof.Machine

/-! ## Pieces of an entry (R120) -/

theorem Entry.piece_eq (en : Entry) (b : Bool) : en.piece b = en.pieces[b.toNat]? := by
  unfold Entry.piece
  rcases en.pieces with _ | ⟨p, _ | ⟨q, rest⟩⟩ <;> cases b <;> rfl

theorem Entry.modPiece_eq (en : Entry) (b : Bool) (f : Piece → Piece) :
    en.modPiece b f = { en with pieces := en.pieces.modify b.toNat f } := by
  obtain ⟨state, port, id, tag, kind, length, disposition, target, pieces, prepared⟩ := en
  rcases pieces with _ | ⟨p, _ | ⟨q, rest⟩⟩ <;> cases b <;> rfl

theorem Entry.piece_mem {en : Entry} {b : Bool} {pc : Piece} (h : en.piece b = some pc) : pc ∈ en.pieces := by
  rw [Entry.piece_eq] at h
  exact List.mem_of_getElem? h

theorem mem_modify {l : List Piece} {i : Nat} {f : Piece → Piece} {x : Piece} (h : x ∈ l.modify i f) :
    x ∈ l ∨ ∃ pc, l[i]? = some pc ∧ x = f pc := by
  obtain ⟨j, hj⟩ := List.mem_iff_getElem?.1 h
  rw [List.getElem?_modify] at hj
  by_cases hij : i = j
  · subst hij
    cases hl : l[i]? with
    | none => simp [hl] at hj
    | some pc => exact Or.inr ⟨pc, rfl, by simpa [hl] using hj.symm⟩
  · exact Or.inl (List.mem_of_getElem? (by simpa [hij] using hj))

theorem mem_modify_same {l : List Piece} {i : Nat} {f : Piece → Piece} {pc : Piece} (h : l[i]? = some pc) :
    f pc ∈ l.modify i f :=
  List.mem_of_getElem? (i := i) (by simp [h])

theorem Entry.inFlight_iff (en : Entry) :
    en.inFlight = true ↔ ∃ pc ∈ en.pieces, pc.status = .queued ∨ pc.status = .outstanding := by
  simp [Entry.inFlight]

theorem Entry.anyOutstanding_iff (en : Entry) : en.anyOutstanding = true ↔ ∃ pc ∈ en.pieces, pc.status = .outstanding := by
  simp [Entry.anyOutstanding]

/-- An entry with a queued piece is QUEUED or ISSUED (R124, R131). -/
theorem EntryLaw.of_queued {en : Entry} (h : EntryLaw en) (hf : en.state ≠ .free) {pc : Piece} (hm : pc ∈ en.pieces)
    (hq : pc.status = .queued) : en.state = .queued ∨ en.state = .issued := by
  obtain ⟨_, _, _, _, hdone, horphan⟩ := h
  cases hs : en.state with
  | free => exact absurd hs hf
  | queued => exact Or.inl rfl
  | issued => exact Or.inr rfl
  | doneWaiting => exact absurd hq ((hdone hs).2 pc hm)
  | orphaned => exact absurd hq ((horphan hs).2.2 pc hm)

/-- An entry with a piece outstanding has been issued (R124). -/
theorem EntryLaw.of_outstanding {en : Entry} (h : EntryLaw en) {pc : Piece} (hm : pc ∈ en.pieces)
    (ho : pc.status = .outstanding) : en.state = .issued ∨ en.state = .doneWaiting ∨ en.state = .orphaned := by
  obtain ⟨_, hfree, hqueued, _⟩ := h
  cases hs : en.state with
  | free =>
    rw [hfree hs] at hm
    cases hm
  | queued =>
    rw [(hqueued hs).2.2 pc hm] at ho
    cases ho
  | issued => exact Or.inl rfl
  | doneWaiting => exact Or.inr (Or.inl rfl)
  | orphaned => exact Or.inr (Or.inr rfl)

/-! ## The law of the table in its parts (R122, R129, R137) -/

/-- Each acceptance order holds exactly the port's non-FREE entries. -/
def OrdersLaw (s : State) : Prop :=
  ∀ p : PortId, (s.port p).order.Nodup ∧ (s.port p).order.length ≤ 12
    ∧ ∀ e : EntryId, e ∈ (s.port p).order ↔ (s.entry e).state ≠ .free ∧ (s.entry e).port = p

/-- Each issue queue holds exactly the queued pieces of the port's entries. -/
def QueuesLaw (s : State) : Prop :=
  ∀ p : PortId, (s.port p).queue.Nodup ∧ (s.port p).queue.length ≤ 16
    ∧ ∀ r : PieceRef, r ∈ (s.port p).queue ↔ namesQueued s p r

/-- What a port presents is a DONE-WAITING entry of its own. -/
def PresentedLaw (s : State) : Prop :=
  ∀ p : PortId, ∀ e : EntryId, (s.port p).presented = some e → e ∈ (s.port p).order ∧ (s.entry e).state = .doneWaiting

theorem tableLaw_iff {s : State} :
    TableLaw s ↔ (∀ e, EntryLaw (s.entry e)) ∧ OrdersLaw s ∧ QueuesLaw s ∧ PresentedLaw s := by
  unfold TableLaw OrdersLaw QueuesLaw PresentedLaw
  exact and_congr_right fun _ => ⟨fun h => ⟨fun p => (h p).1, fun p => (h p).2.1, fun p => (h p).2.2⟩,
    fun ⟨h1, h2, h3⟩ p => ⟨h1 p, h2 p, h3 p⟩⟩

theorem OrdersLaw.congr {s t : State} (h : OrdersLaw s) (ho : ∀ p, (t.port p).order = (s.port p).order)
    (he : ∀ e, ((t.entry e).state = .free ↔ (s.entry e).state = .free) ∧ (t.entry e).port = (s.entry e).port) :
    OrdersLaw t := by
  intro p
  obtain ⟨h1, h2, h3⟩ := h p
  rw [ho]
  refine ⟨h1, h2, fun e => ?_⟩
  obtain ⟨hf, hp⟩ := he e
  rw [h3, Ne, Ne, hf, hp]

theorem QueuesLaw.congr {s t : State} (h : QueuesLaw s) (hq : ∀ p, (t.port p).queue = (s.port p).queue)
    (hn : ∀ p r, namesQueued t p r ↔ namesQueued s p r) : QueuesLaw t := by
  intro p
  obtain ⟨h1, h2, h3⟩ := h p
  rw [hq]
  exact ⟨h1, h2, fun r => (h3 r).trans (hn p r).symm⟩

/-- The law of the table reads entries, orders, queues and what is presented. -/
theorem TableLaw.congr {s t : State} (h : TableLaw s) (he : t.entries = s.entries)
    (hp : ∀ p, (t.port p).order = (s.port p).order ∧ (t.port p).queue = (s.port p).queue
      ∧ (t.port p).presented = (s.port p).presented) : TableLaw t := by
  have hentry : ∀ e, t.entry e = s.entry e := fun e => by simp [State.entry, he]
  rw [tableLaw_iff] at h ⊢
  obtain ⟨h1, h2, h3, h4⟩ := h
  refine ⟨fun e => by rw [hentry]; exact h1 e, h2.congr (fun p => (hp p).1) fun e => by rw [hentry]; exact ⟨Iff.rfl, rfl⟩,
    h3.congr (fun p => (hp p).2.1) fun p r => by simp only [namesQueued, hentry], fun p e hpe => ?_⟩
  obtain ⟨ho, _, hpr⟩ := hp p
  rw [hpr] at hpe
  rw [ho, hentry]
  exact h4 p e hpe

theorem TableLaw.samePorts {s t : State} (h : TableLaw s) (he : t.entries = s.entries) (hp : t.ports = s.ports) :
    TableLaw t :=
  h.congr he fun p => by simp [State.port, hp]

/-- A change of a port that leaves its order, its queue and what it presents. -/
theorem TableLaw.modPort {s : State} {p : PortId} {f : Port → Port} (h : TableLaw s)
    (hf : ∀ po, (f po).order = po.order ∧ (f po).queue = po.queue ∧ (f po).presented = po.presented) :
    TableLaw (s.modPort p f) := by
  refine h.congr rfl fun q => ?_
  rw [modPort_port]
  split
  · next e =>
    subst e
    exact hf _
  · exact ⟨rfl, rfl, rfl⟩

theorem present_table {s : State} (p : PortId) (h : TableLaw s) : TableLaw (present p s) := by
  rcases present_cases p s with ⟨_, _, e⟩ | ⟨_, e⟩ <;> rw [e]
  · exact h
  rw [tableLaw_iff] at h ⊢
  obtain ⟨h1, h2, h3, h4⟩ := h
  have hport : ∀ q, ((s.modPort p fun po => { po with presented := firstDeliverable s [] po.order }).port q).order
        = (s.port q).order
      ∧ ((s.modPort p fun po => { po with presented := firstDeliverable s [] po.order }).port q).queue
        = (s.port q).queue := fun q => by
    rw [modPort_port]
    split
    · next e =>
      subst e
      exact ⟨rfl, rfl⟩
    · exact ⟨rfl, rfl⟩
  refine ⟨h1, h2.congr (fun q => (hport q).1) fun _ => ⟨Iff.rfl, rfl⟩, h3.congr (fun q => (hport q).2) fun _ _ => Iff.rfl,
    fun q e he => ?_⟩
  rw [(hport q).1]
  rw [modPort_port] at he
  split at he
  · next hq =>
    subst hq
    exact firstDeliverable_mem (s := s) he
  · exact h4 q e he

/-! ## Entries in flight on a page (R28) -/

/-- The entry is of this access, directed to this page, and has a piece queued or outstanding. -/
def Entry.directed (en : Entry) (k : Access) (p : PageId) : Bool :=
  en.kind == k && en.target.map (·.page) == some p && en.inFlight

theorem Entry.directed_iff {en : Entry} {k : Access} {p : PageId} :
    en.directed k p = true ↔ en.kind = k ∧ en.target.map (·.page) = some p ∧ en.inFlight = true := by
  simp [Entry.directed, and_assoc]

/-- How many entries meet a test, as a sum over the table. -/
theorem length_filter_entries (f : EntryId → Bool) : ((List.finRange 48).filter f).length = ∑ e : EntryId, (f e).toNat := by
  have hlist : ∀ l : List EntryId, (l.filter f).length = (l.map fun e => (f e).toNat).sum := fun l => by
    induction l with
    | nil => rfl
    | cons e l ih => cases h : f e <;> simp [h, ih, Nat.add_comm]
  rw [← List.sum_ofFn, List.ofFn_eq_map]
  exact hlist _

theorem inFlightOn_sum (s : State) (k : Access) (p : PageId) :
    inFlightOn s k p = ∑ e : EntryId, ((s.entry e).directed k p).toNat :=
  length_filter_entries fun e => (s.entry e).directed k p

theorem inFlightOn_congr {s t : State} (h : ∀ e, (t.entry e).directed = (s.entry e).directed) :
    inFlightOn t = inFlightOn s := by
  funext k p
  simp only [inFlightOn_sum, h]

theorem inFlightOn_entries {s t : State} (h : t.entries = s.entries) : inFlightOn t = inFlightOn s :=
  inFlightOn_congr fun e => by simp [State.entry, h]

/-- With one entry changed, the numbers differ by what that entry counts. -/
theorem inFlightOn_one {s t : State} {e : EntryId} (h : ∀ d, d ≠ e → t.entry d = s.entry d) (k : Access) (p : PageId) :
    inFlightOn t k p + ((s.entry e).directed k p).toNat = inFlightOn s k p + ((t.entry e).directed k p).toNat := by
  have hrest : ∑ d ∈ Finset.univ.erase e, ((t.entry d).directed k p).toNat
      = ∑ d ∈ Finset.univ.erase e, ((s.entry d).directed k p).toNat :=
    Finset.sum_congr rfl fun d hd => by rw [h d (Finset.ne_of_mem_erase hd)]
  rw [inFlightOn_sum, inFlightOn_sum, ← Finset.add_sum_erase _ _ (Finset.mem_univ e),
    ← Finset.add_sum_erase (s := Finset.univ) (fun d => ((s.entry d).directed k p).toNat) (Finset.mem_univ e), hrest]
  omega

/-! ## The grant (R124, R140) -/

/-- An entry one of whose pieces has been handed to the link. -/
def Entry.sent (en : Entry) (b : Bool) : Entry :=
  { en with
    state := .issued
    pieces := en.pieces.modify b.toNat fun pc => { pc with status := .outstanding, data := [] } }

theorem sendPiece_eq {s : State} {r : PieceRef} {pc : Piece} (hp : (s.entry r.entry).piece r.second = some pc)
    (hs : (s.entry r.entry).state = .queued ∨ (s.entry r.entry).state = .issued) :
    ∃ links, sendPiece r s = { s.modEntry r.entry (fun en => en.sent r.second) with links := links } := by
  refine ⟨{ s.links with sentPieces := s.links.sentPieces ++ [pieceMessage (s.entry r.entry) r pc] }, ?_⟩
  unfold sendPiece
  rw [hp]
  dsimp only
  congr 1
  refine congrArg State.entries (modEntry_congr ?_)
  rcases hs with h | h <;> simp only [h, Entry.modPiece_eq, Entry.sent]

section Sent

variable {en : Entry} {b : Bool} {pc : Piece} (h : EntryLaw en) (hp : en.piece b = some pc) (hq : pc.status = .queued)
  (hs : en.state = .queued ∨ en.state = .issued)
include hp

theorem Entry.sent_inFlight : (en.sent b).inFlight = true := by
  rw [Entry.piece_eq] at hp
  exact (Entry.inFlight_iff _).2 ⟨_, mem_modify_same hp, Or.inr rfl⟩

include h hs in
theorem EntryLaw.sent : EntryLaw (en.sent b) := by
  obtain ⟨hlen, _, hqueued, hissued, _, _⟩ := h
  have hprepared : en.prepared = none := hs.elim (fun k => (hqueued k).1) fun k => (hissued k).1
  have hkept : ∀ x ∈ en.pieces, x.status ≠ .removed := fun x hx => by
    rcases hs with k | k
    · rw [(hqueued k).2.2 x hx]
      decide
    · exact (hissued k).2.2 x hx
  refine ⟨by simpa [Entry.sent] using hlen, fun k => (by cases k), fun k => (by cases k),
    fun _ => ⟨hprepared, Entry.sent_inFlight hp, fun x hx => ?_⟩, fun k => (by cases k), fun k => (by cases k)⟩
  rcases mem_modify hx with hx | ⟨y, _, rfl⟩
  · exact hkept x hx
  · exact fun k => by cases k

include hq in
theorem Entry.sent_directed : (en.sent b).directed = en.directed := by
  have hin : en.inFlight = true := (Entry.inFlight_iff _).2 ⟨pc, Entry.piece_mem hp, Or.inl hq⟩
  funext k q
  unfold Entry.directed
  rw [Entry.sent_inFlight hp, hin]
  rfl

end Sent

/-- A piece handed to the link is queued no longer, and no other is touched. -/
theorem namesQueued_sent {s t : State} {r : PieceRef} (hs : (s.entry r.entry).state ≠ .free)
    (he : ∀ d, t.entry d = if d = r.entry then (s.entry d).sent r.second else s.entry d) (p : PortId) (x : PieceRef) :
    namesQueued t p x ↔ namesQueued s p x ∧ x ≠ r := by
  unfold namesQueued
  rw [he]
  by_cases hx : x.entry = r.entry
  · rw [if_pos hx, hx]
    have hne : x ≠ r ↔ x.second ≠ r.second := by
      cases x
      cases r
      simp_all
    have hpiece : (((s.entry r.entry).sent r.second).piece x.second).map (·.status) = some .queued ↔
        ((s.entry r.entry).piece x.second).map (·.status) = some .queued ∧ x ≠ r := by
      rw [hne, Entry.piece_eq, Entry.piece_eq]
      show (((s.entry r.entry).pieces.modify _ _)[_]?).map _ = _ ↔ _
      rw [List.getElem?_modify]
      by_cases hb : x.second = r.second
      · rw [hb]
        simp
      · have hb' : r.second.toNat ≠ x.second.toNat := fun k =>
          hb ((Bool.ofNat_toNat _).symm.trans ((congrArg Bool.ofNat k.symm).trans (Bool.ofNat_toNat _)))
        simp [hb, hb']
    rw [hpiece]
    have hissued : ((s.entry r.entry).sent r.second).state ≠ .free := fun k => by cases k
    simp only [hs, hissued, ne_eq, not_false_eq_true, true_and]
    exact ⟨fun ⟨h1, h2, h3⟩ => ⟨⟨h1, h2⟩, h3⟩, fun ⟨⟨h1, h2⟩, h3⟩ => ⟨h1, h2, h3⟩⟩
  · rw [if_neg hx]
    have hne : x ≠ r := fun k => hx (by rw [k])
    simp [hne]

/-- A grant keeps the law of the table, and what is in flight stays in flight. -/
theorem grantPort_table {s : State} (p : PortId) (h : TableLaw s) :
    TableLaw (grantPort p s) ∧ inFlightOn (grantPort p s) = inFlightOn s := by
  unfold grantPort
  cases hqueue : (s.port p).queue with
  | nil => exact ⟨h, rfl⟩
  | cons r rest =>
    obtain ⟨h1, h2, h3, h4⟩ := tableLaw_iff.1 h
    have hnames := (h3 p).2.2 r
    rw [hqueue] at hnames
    obtain ⟨hport, hfree, hstatus⟩ := hnames.1 (List.mem_cons_self ..)
    obtain ⟨pc, hpc, hpq⟩ := Option.map_eq_some_iff.1 hstatus
    have hstate := (h1 r.entry).of_queued hfree (Entry.piece_mem hpc) hpq
    dsimp only
    generalize hu : ({ s.modPort p (fun po => { po with queue := rest, credit := po.credit - 1 }) with
      pointer := p + 1
      indications := (s.modPort p fun po => { po with queue := rest, credit := po.credit - 1 }).indications - 1 } : State)
      = u
    have huentry : ∀ d, u.entry d = s.entry d := fun d => by rw [← hu]; rfl
    have huport : ∀ q, u.port q = if q = p then { s.port p with queue := rest, credit := (s.port p).credit - 1 }
        else s.port q := fun q => by
      rw [← hu]
      exact modPort_port s p q fun po => { po with queue := rest, credit := po.credit - 1 }
    obtain ⟨links, e⟩ := sendPiece_eq (s := u) (r := r) (pc := pc) (by rw [huentry]; exact hpc) (by rw [huentry]; exact hstate)
    generalize sendPiece r u = t at e
    have hentry : ∀ d, t.entry d = if d = r.entry then (s.entry d).sent r.second else s.entry d := fun d => by
      rw [e]
      show (u.modEntry r.entry fun en => en.sent r.second).entry d = _
      rw [modEntry_entry]
      split
      · next hd => rw [huentry, hd]
      · exact huentry d
    have hports : ∀ q, t.port q = if q = p then { s.port p with queue := rest, credit := (s.port p).credit - 1 }
        else s.port q := fun q => by
      rw [e]
      exact huport q
    have hmem : ∀ q x, namesQueued t q x ↔ namesQueued s q x ∧ x ≠ r := fun q x => namesQueued_sent hfree hentry q x
    constructor
    · refine tableLaw_iff.2 ⟨fun d => ?_, fun q => ?_, fun q => ?_, fun q d hd => ?_⟩
      · rw [hentry]
        split
        · next hd =>
          subst hd
          exact (h1 _).sent hpc hstate
        · exact h1 d
      · have horder : (t.port q).order = (s.port q).order := by
          rw [hports]
          split
          · next hq => rw [hq]
          · rfl
        rw [horder]
        obtain ⟨hnd, hlen, hm⟩ := h2 q
        refine ⟨hnd, hlen, fun d => (hm d).trans ?_⟩
        rw [hentry]
        split
        · next hd =>
          subst hd
          simp [hfree, Entry.sent]
        · exact Iff.rfl
      · obtain ⟨hnd, hlen, hm⟩ := h3 q
        rw [hports]
        split
        · next hq =>
          subst hq
          rw [hqueue] at hnd hlen hm
          obtain ⟨hr, hnd⟩ := List.nodup_cons.1 hnd
          refine ⟨hnd, (Nat.le_succ _).trans hlen, fun x => ?_⟩
          rw [hmem, ← hm, List.mem_cons]
          exact ⟨fun hx => ⟨Or.inr hx, fun k => hr (k ▸ hx)⟩, fun ⟨hx, hne⟩ => hx.resolve_left hne⟩
        · next hq =>
          refine ⟨hnd, hlen, fun x => ?_⟩
          rw [hmem, ← hm]
          refine ⟨fun hx => ⟨hx, fun k => hq ?_⟩, fun hx => hx.1⟩
          rw [← hport, ← ((hm x).1 hx).1, k]
      · have hp : (s.port q).presented = some d := by
          rw [hports] at hd
          split at hd
          · next hq => rw [hq]; exact hd
          · exact hd
        obtain ⟨hm, hdone⟩ := h4 q d hp
        have hne : d ≠ r.entry := fun k => by
          rw [← k, hdone] at hstate
          rcases hstate with k | k <;> cases k
        rw [hentry, if_neg hne, hports]
        refine ⟨?_, hdone⟩
        split
        · next hq => rw [← hq]; exact hm
        · exact hm
    · refine inFlightOn_congr fun d => ?_
      rw [hentry]
      split
      · next hd =>
        subst hd
        exact Entry.sent_directed hpc hpq
      · rfl

theorem reloadCredits_table {s : State} (h : TableLaw s) : TableLaw (reloadCredits s) :=
  h.congr rfl fun p => by simp

theorem grant_table {s : State} (h : TableLaw s) : TableLaw (grant s) ∧ inFlightOn (grant s) = inFlightOn s := by
  rcases grant_cases s with ⟨p, _, e⟩ | ⟨_, p, _, e⟩ | ⟨_, _, e⟩ <;> rw [e]
  · exact grantPort_table p h
  · exact grantPort_table p (reloadCredits_table h)
  · exact ⟨reloadCredits_table h, rfl⟩

theorem runGrants_table {s : State} (h : TableLaw s) :
    TableLaw (runGrants s) ∧ inFlightOn (runGrants s) = inFlightOn s := by
  have hloop : ∀ (fuel : Nat) (u : State), TableLaw u →
      TableLaw (grantLoop fuel u) ∧ inFlightOn (grantLoop fuel u) = inFlightOn u := fun fuel => by
    induction fuel with
    | zero => exact fun u hu => ⟨hu, rfl⟩
    | succ fuel ih =>
      intro u hu
      unfold grantLoop
      split
      · obtain ⟨hg, hc⟩ := grant_table hu
        obtain ⟨ht, hk⟩ := ih _ hg
        exact ⟨ht, hk.trans hc⟩
      · exact ⟨hu, rfl⟩
  exact hloop _ s h

/-! ## One entry rewritten, freed or taken (R101, R123, R127, R129, R132) -/

/-- An entry may be rewritten that keeps its port, stays FREE or not, has the same pieces queued, and stays DONE-WAITING where
it is presented. -/
theorem TableLaw.modEntry {s : State} {e : EntryId} {f : Entry → Entry} (h : TableLaw s) (hlaw : EntryLaw (f (s.entry e)))
    (hfree : (f (s.entry e)).state = .free ↔ (s.entry e).state = .free) (hport : (f (s.entry e)).port = (s.entry e).port)
    (hqueued : ∀ b, ((f (s.entry e)).piece b).map (·.status) = some .queued ↔
      ((s.entry e).piece b).map (·.status) = some .queued)
    (hdone : ∀ p, (s.port p).presented = some e → (f (s.entry e)).state = .doneWaiting) :
    TableLaw (s.modEntry e f) := by
  rw [tableLaw_iff] at h ⊢
  obtain ⟨h1, h2, h3, h4⟩ := h
  refine ⟨fun d => ?_, h2.congr (fun _ => rfl) fun d => ?_, h3.congr (fun _ => rfl) fun p r => ?_, fun p d hd => ?_⟩
  · rw [modEntry_entry]
    split
    · exact hlaw
    · exact h1 d
  · rw [modEntry_entry]
    split
    · next hd =>
      subst hd
      exact ⟨hfree, hport⟩
    · exact ⟨Iff.rfl, rfl⟩
  · unfold namesQueued
    rw [modEntry_entry]
    split
    · next hd => rw [hd, hport, Ne, Ne, hfree, hqueued]
    · exact Iff.rfl
  · obtain ⟨hm, hst⟩ := h4 p d hd
    refine ⟨hm, ?_⟩
    rw [modEntry_entry]
    split
    · next hde => exact hdone p (hde ▸ hd)
    · exact hst

theorem freeEntry_entry (e : EntryId) (s : State) (d : EntryId) :
    (freeEntry e s).entry d = if d = e then Entry.blank else s.entry d := by
  unfold freeEntry
  rw [modEntry_entry]
  rfl

theorem freeEntry_port (e : EntryId) (s : State) (p : PortId) :
    (freeEntry e s).port p =
      if p = (s.entry e).port then { s.port p with order := (s.port p).order.filter (· != e) } else s.port p := by
  unfold freeEntry
  rw [modEntry_port, modPort_port]
  split
  · next h => rw [h]
  · rfl

/-- An entry that nobody presents and that has no queued piece may become FREE. -/
theorem freeEntry_table {s : State} {e : EntryId} (h : TableLaw s)
    (hqueued : ∀ b, ((s.entry e).piece b).map (·.status) ≠ some .queued)
    (hpresented : ∀ p, (s.port p).presented ≠ some e) : TableLaw (freeEntry e s) := by
  rw [tableLaw_iff] at h ⊢
  obtain ⟨h1, h2, h3, h4⟩ := h
  refine ⟨fun d => ?_, fun p => ?_, h3.congr (fun p => ?_) fun p r => ?_, fun p d hd => ?_⟩
  · rw [freeEntry_entry]
    split
    · exact blank_entryLaw
    · exact h1 d
  · obtain ⟨hnd, hlen, hm⟩ := h2 p
    rw [freeEntry_port]
    by_cases hp : p = (s.entry e).port
    · rw [if_pos hp]
      refine ⟨hnd.filter _, (List.length_filter_le _ _).trans hlen, fun d => ?_⟩
      rw [freeEntry_entry, List.mem_filter, hm]
      by_cases hd : d = e <;> simp [hd, Entry.blank]
    · rw [if_neg hp]
      refine ⟨hnd, hlen, fun d => ?_⟩
      rw [freeEntry_entry, hm]
      by_cases hd : d = e
      · simp [hd, Entry.blank, Ne.symm hp]
      · simp [hd]
  · rw [freeEntry_port]
    split <;> rfl
  · unfold namesQueued
    rw [freeEntry_entry]
    split
    · next hr =>
      rw [hr]
      exact iff_of_false (fun k => k.2.1 rfl) fun k => hqueued _ k.2.2
    · exact Iff.rfl
  · have hp : (s.port p).presented = some d := by
      rw [freeEntry_port] at hd
      split at hd <;> exact hd
    have hde : d ≠ e := fun k => hpresented p (k ▸ hp)
    obtain ⟨hm, hst⟩ := h4 p d hp
    rw [freeEntry_entry, if_neg hde, freeEntry_port]
    refine ⟨?_, hst⟩
    split
    · exact List.mem_filter.2 ⟨hm, by simpa using hde⟩
    · exact hm

theorem freeEntry_modEntry (e : EntryId) (f : Entry → Entry) (s : State) (h : (f (s.entry e)).port = (s.entry e).port) :
    freeEntry e (s.modEntry e f) = freeEntry e s := by
  unfold freeEntry
  rw [modEntry_entry_same, h]
  exact modEntry_modEntry (s.modPort (s.entry e).port fun po => { po with order := po.order.filter (· != e) }) e f
    fun _ => Entry.blank

/-! ### A completed piece -/

theorem mem_completed {en : Entry} {b : Bool} {c : Completion} {x : Piece}
    (hx : x ∈ (en.modPiece b fun pc => pc.complete en c).pieces) :
    x ∈ en.pieces ∨ x.status = .ok ∨ x.status = .error := by
  rw [Entry.modPiece_eq] at hx
  rcases mem_modify hx with hx | ⟨y, _, rfl⟩
  · exact Or.inl hx
  · exact Or.inr (Piece.complete_status y en c)

section Completed

variable {en : Entry} {b : Bool} {pc : Piece} {c : Completion} (hp : en.piece b = some pc)
include hp

/-- The piece that completes was outstanding, so the same pieces are queued. -/
theorem completed_queued (ho : pc.status = .outstanding) (b' : Bool) :
    ((en.modPiece b fun pc => pc.complete en c).piece b').map (·.status) = some .queued ↔
      (en.piece b').map (·.status) = some .queued := by
  rw [Entry.piece_eq, Entry.piece_eq, Entry.modPiece_eq]
  dsimp only
  rw [List.getElem?_modify]
  by_cases hb : b.toNat = b'.toNat
  · rw [Entry.piece_eq, hb] at hp
    rcases Piece.complete_status pc en c with h | h <;> simp [hb, hp, ho, h]
  · simp [hb]

/-- The law of an entry that still has a piece in flight, or that no longer waits for one. -/
theorem EntryLaw.completed (h : EntryLaw en) (ho : pc.status = .outstanding)
    (hin : en.state ≠ .doneWaiting → (en.modPiece b fun pc => pc.complete en c).inFlight = true) :
    EntryLaw (en.modPiece b fun pc => pc.complete en c) := by
  have hmem : ∀ x ∈ (en.modPiece b fun pc => pc.complete en c).pieces,
      x ∈ en.pieces ∨ x.status = .ok ∨ x.status = .error := fun x hx => mem_completed hx
  have hstate := h.of_outstanding (Entry.piece_mem hp) ho
  rw [Entry.modPiece_eq] at hin hmem ⊢
  obtain ⟨hlen, _, _, hissued, hdone, horphan⟩ := h
  refine ⟨by simpa using hlen, fun k => ?_, fun k => ?_, fun k => ?_, fun k => ?_, fun k => ?_⟩
  · simp [show en.state = .free from k] at hstate
  · simp [show en.state = .queued from k] at hstate
  · obtain ⟨h1, _, h3⟩ := hissued k
    have hissued : en.state = .issued := k
    refine ⟨h1, hin (by simp [hissued]), fun x hx => ?_⟩
    rcases hmem x hx with hx | hx | hx
    · exact h3 x hx
    all_goals simp [hx]
  · obtain ⟨h1, h2⟩ := hdone k
    refine ⟨h1, fun x hx => ?_⟩
    rcases hmem x hx with hx | hx | hx
    · exact h2 x hx
    all_goals simp [hx]
  · obtain ⟨h1, _, h3⟩ := horphan k
    have hnot : ∀ x ∈ en.pieces.modify b.toNat fun pc => pc.complete en c, x.status ≠ .queued := fun x hx => by
      rcases hmem x hx with hx | hx | hx
      · exact h3 x hx
      all_goals simp [hx]
    refine ⟨h1, ?_, hnot⟩
    have horphaned : en.state = .orphaned := k
    obtain ⟨x, hx, hst⟩ := (Entry.inFlight_iff _).1 (hin (by simp [horphaned]))
    exact (Entry.anyOutstanding_iff _).2 ⟨x, hx, hst.resolve_left (hnot x hx)⟩

end Completed

/-- Nothing of an entry is queued any more when nothing of it is in flight. -/
theorem Entry.not_queued {en : Entry} (h : en.inFlight = false) {x : Piece} (hx : x ∈ en.pieces) : x.status ≠ .queued :=
  fun k => by
    rw [(Entry.inFlight_iff en).2 ⟨x, hx, Or.inl k⟩] at h
    cases h

theorem Entry.finish_inFlight (en : Entry) : en.finish.inFlight = en.inFlight := by
  simp [Entry.finish, Entry.inFlight, Function.comp_def]

theorem Entry.directed_of_not_inFlight {en : Entry} (h : en.inFlight = false) (k : Access) (p : PageId) :
    en.directed k p = false := by
  simp [Entry.directed, h]

theorem Entry.blank_inFlight : Entry.blank.inFlight = false := rfl

/-- An ISSUED entry whose last piece has completed is finished (R127). -/
theorem EntryLaw.finished {en : Entry} (h : en.pieces.length ≤ 2) (hin : en.inFlight = false) : EntryLaw en.finish := by
  refine ⟨by simpa [Entry.finish] using h, fun k => (by cases k), fun k => (by cases k), fun k => (by cases k),
    fun _ => ⟨by simp [Entry.finish], fun x hx => Entry.not_queued (by rw [Entry.finish_inFlight]; exact hin) hx⟩,
    fun k => (by cases k)⟩

end Sys2Proof.Machine

/-! PROOFS. The table at an acceptance, a delivery and a datapath reset, and the pieces that steering gives a request. -/

namespace Sys2Proof.Machine

/-! ## What steering decides, as the table sees it (R103 to R112) -/

/-- A decision has one or two queued pieces, or none and a prepared response; only one with pieces has a page. -/
def Decision.Proper (d : Decision) : Prop :=
  d.pieces.length ≤ 2 ∧ (∀ pc ∈ d.pieces, pc.status = .queued) ∧ (d.pieces ≠ [] → d.prepared = none)
    ∧ (d.pieces = [] → d.prepared ≠ none ∧ d.target = none)

theorem proper_of_answered {d : Decision} (hp : d.pieces = []) (hr : d.prepared ≠ none) (ht : d.target = none) : d.Proper := by
  simp [Decision.Proper, hp, hr, ht]

theorem passDecision_proper (r : Request) : (passDecision r).Proper := by
  simp [Decision.Proper, passDecision]

theorem piecesOf_queued {address : Nat → Nat} {l : List (Nat × Nat)} {data : List WriteBeat} {pc : Piece}
    (h : pc ∈ piecesOf address l data) : pc.status = .queued := by
  induction l generalizing data with
  | nil => cases h
  | cons c rest ih =>
    rcases List.mem_cons.1 h with rfl | h
    · rfl
    · exact ih h

theorem apertureDecision_proper (t : Target) (address : Nat → Nat) (lineLength o : Nat) (r : Request) :
    (apertureDecision t address lineLength o r).Proper := by
  obtain ⟨_, _, _, _, h1, h2⟩ := apertureDecision_directed t address lineLength o r
  refine ⟨h2, fun pc hpc => piecesOf_queued hpc, fun _ => rfl, fun h => ?_⟩
  rw [h] at h1
  cases h1

theorem steerAllowed_proper (s : State) (r : Request) (a : Aperture) : (steerAllowed s r a).Proper := by
  have hanswer : ∀ d : Decision, d = sunkDecision ∨ (∃ st, d = blankDecision st r) → d.Proper := by
    rintro d (rfl | ⟨st, rfl⟩) <;> exact proper_of_answered rfl (by simp [sunkDecision, blankDecision]) rfl
  unfold steerAllowed
  dsimp only
  cases a.role with
  | producer =>
    dsimp only
    split
    · exact apertureDecision_proper _ _ _ _ r
    · cases r.kind with
      | write => exact hanswer _ (Or.inl rfl)
      | read => exact hanswer _ (Or.inr ⟨_, rfl⟩)
  | slot x =>
    dsimp only
    split
    · exact apertureDecision_proper _ _ _ _ r
    · exact hanswer _ (Or.inr ⟨_, rfl⟩)

theorem steer_proper (s : State) (p : PortId) (r : Request) : (steer s p r).Proper := by
  have hrefuse : ∀ why n, (refuseReported p r why n).Proper := fun why n =>
    proper_of_answered rfl (by simp [refuseReported]) rfl
  have hsilent : ∀ why, (refuseSilent why).Proper := fun why => proper_of_answered rfl (by simp [refuseSilent]) rfl
  have hinside : ∀ a, (steerInside s p r a).Proper := fun a => by
    unfold steerInside
    dsimp only
    split
    · exact hsilent _
    · exact hsilent _
    · exact hsilent _
    · split
      · exact hrefuse _ _
      · split
        · exact steerAllowed_proper s r a
        · exact hrefuse _ _
  unfold steer
  split
  · exact hrefuse _ _
  · split
    · split
      · exact passDecision_proper r
      · exact hrefuse _ _
    · split
      · exact hinside _
      · exact hrefuse _ _

/-- A request that is directed to a page has passed the role test of its aperture (R107). -/
theorem steer_target_role {s : State} {p : PortId} {r : Request} {t : Target} (h : (steer s p r).target = some t) :
    ∃ a, roleAllows (s.stream a.stream) a.role r = true ∧ steer s p r = steerAllowed s r a := by
  unfold steer at h ⊢
  split at h
  · cases h
  · next h1 =>
    rw [if_neg h1]
    split at h
    · split at h <;> cases h
    · next h2 =>
      rw [if_neg h2]
      split at h
      · next a hf =>
        unfold steerInside at h ⊢
        dsimp only at h ⊢
        split at h
        · cases h
        · cases h
        · cases h
        · split at h
          · cases h
          · next hal =>
            split at h
            · next hrole => exact ⟨a, hrole, by rw [if_neg hal, if_pos hrole]⟩
            · cases h
      · cases h

/-- The page of a directed request is a fill page, or a held page that is read (R107 to R109). -/
theorem steer_page {s : State} {p : PortId} {r : Request} {t : Target} (h : (steer s p r).target = some t) :
    ∃ n, (s.stream n).fillPage = some t.page ∨ (∃ x, (s.slot n x).held = some t.page) ∧ r.kind = .read := by
  obtain ⟨a, hrole, e⟩ := steer_target_role h
  rw [e] at h
  refine ⟨a.stream, ?_⟩
  rcases steerAllowed_target h with ⟨_, hq, _⟩ | ⟨x, hx, hq, _⟩
  · exact Or.inl hq
  · rw [hx] at hrole
    simp only [roleAllows, Bool.and_eq_true, beq_iff_eq] at hrole
    exact Or.inr ⟨⟨x, hq⟩, hrole.2⟩

/-! ## Acceptance (R101, R122, R123) -/

theorem mem_refsOf {e : EntryId} {l : List Piece} {r : PieceRef} :
    r ∈ refsOf e l ↔ r.entry = e ∧ (l[r.second.toNat]?).isSome := by
  obtain ⟨d, b⟩ := r
  rcases l with _ | ⟨p, _ | ⟨q, rest⟩⟩ <;> cases b <;> simp [refsOf]

theorem refsOf_nodup (e : EntryId) (l : List Piece) : (refsOf e l).Nodup := by
  rcases l with _ | ⟨p, _ | ⟨q, rest⟩⟩ <;> simp [refsOf]

theorem refsOf_length (e : EntryId) (l : List Piece) : (refsOf e l).length ≤ l.length := by
  rcases l with _ | ⟨p, _ | ⟨q, rest⟩⟩ <;> simp [refsOf]

section Accept

variable {p : PortId} {r : Request} {d : Decision} (hd : d.Proper)
include hd

theorem newEntry_law : EntryLaw (newEntry p r d) := by
  obtain ⟨hlen, hqueued, hsome, hnone⟩ := hd
  by_cases hp : d.pieces = []
  · have hs : (newEntry p r d).state = .doneWaiting := by simp [newEntry, hp]
    have hpieces : (newEntry p r d).pieces = [] := hp
    have hprepared : (newEntry p r d).prepared = d.prepared := rfl
    simp only [EntryLaw, hs, hpieces, hprepared]
    simpa using (hnone hp).1
  · have hs : (newEntry p r d).state = .queued := by simp [newEntry, hp]
    have hpieces : (newEntry p r d).pieces = d.pieces := rfl
    have hprepared : (newEntry p r d).prepared = d.prepared := rfl
    simp only [EntryLaw, hs, hpieces, hprepared]
    simpa [hlen, hp] using ⟨hsome hp, hqueued⟩

theorem newEntry_inFlight : (newEntry p r d).inFlight = true ↔ d.pieces ≠ [] := by
  obtain ⟨_, hqueued, _⟩ := hd
  rw [Entry.inFlight_iff]
  constructor
  · rintro ⟨pc, hpc, _⟩ hn
    have hpc' : pc ∈ d.pieces := hpc
    rw [hn] at hpc'
    cases hpc'
  · intro hn
    obtain ⟨pc, hpc⟩ := List.exists_mem_of_ne_nil _ hn
    exact ⟨pc, hpc, Or.inl (hqueued pc hpc)⟩

/-- What a new entry counts as (R28). -/
theorem newEntry_directed (k : Access) (q : PageId) :
    (newEntry p r d).directed k q = true ↔ r.kind = k ∧ d.target.map (·.page) = some q := by
  rw [Entry.directed_iff, newEntry_inFlight hd]
  refine and_congr_right fun _ => ⟨fun h => h.1, fun h => ⟨h, fun hn => ?_⟩⟩
  obtain ⟨_, _, _, hnone⟩ := hd
  rw [(hnone hn).2] at h
  cases h

end Accept

theorem newEntry_state (p : PortId) (r : Request) (d : Decision) : (newEntry p r d).state ≠ .free := by
  unfold newEntry
  dsimp only
  split <;> decide

theorem firstFreeEntry_free {s : State} {e : EntryId} (h : firstFreeEntry s = some e) : (s.entry e).state = .free := by
  simpa using List.find?_some h

theorem acceptEntry_some {s : State} {p : PortId} {r : Request} {e : EntryId} (h : acceptEntry s p r = some e) :
    (s.entry e).state = .free ∧ (s.port p).order.length < 12
      ∧ (s.port p).queue.length + (steer s p r).pieces.length ≤ 16 := by
  unfold acceptEntry at h
  split at h
  · next hroom =>
    simp only [portRoom, Bool.and_eq_true, decide_eq_true_eq] at hroom
    exact ⟨firstFreeEntry_free h, hroom⟩
  · cases h

/-- A request takes a FREE entry, stands behind the others of its port, and queues its pieces. -/
theorem accept_table {s : State} {p : PortId} {r : Request} {d : Decision} {e : EntryId} (h : TableLaw s) (hd : d.Proper)
    (hfree : (s.entry e).state = .free) (horder : (s.port p).order.length < 12)
    (hqueue : (s.port p).queue.length + d.pieces.length ≤ 16) :
    TableLaw ((s.modEntry e fun _ => newEntry p r d).modPort p fun po => po.acceptEntry e d) := by
  obtain ⟨h1, h2, h3, h4⟩ := tableLaw_iff.1 h
  have hnotin : ∀ q, e ∉ (s.port q).order := fun q hm => ((h2 q).2.2 e |>.1 hm).1 hfree
  have hnoref : ∀ q (x : PieceRef), x ∈ (s.port q).queue → x.entry ≠ e := fun q x hx hxe => by
    have := ((h3 q).2.2 x |>.1 hx).2.1
    rw [hxe] at this
    exact this hfree
  have hentry : ∀ x, ((s.modEntry e fun _ => newEntry p r d).modPort p fun po => po.acceptEntry e d).entry x
      = if x = e then newEntry p r d else s.entry x := fun x => by
    rw [modPort_entry, modEntry_entry]
  have hport : ∀ q, ((s.modEntry e fun _ => newEntry p r d).modPort p fun po => po.acceptEntry e d).port q
      = if q = p then (s.port p).acceptEntry e d else s.port q := fun q => by
    rw [modPort_port]
    rfl
  refine tableLaw_iff.2 ⟨fun x => ?_, fun q => ?_, fun q => ?_, fun q x hx => ?_⟩
  · rw [hentry]
    split
    · exact newEntry_law hd
    · exact h1 x
  · obtain ⟨hnd, hlen, hm⟩ := h2 q
    rw [hport]
    by_cases hq : q = p
    · subst hq
      rw [if_pos rfl]
      refine ⟨hnd.append (List.nodup_singleton e) (List.disjoint_singleton.2 (hnotin q)), ?_, fun x => ?_⟩
      · simpa [Port.acceptEntry] using horder
      · show x ∈ (s.port q).order ++ [e] ↔ _
        rw [hentry, List.mem_append, List.mem_singleton, hm]
        by_cases hx : x = e
        · subst hx
          simp only [or_true, if_true, true_iff]
          exact ⟨newEntry_state q r d, rfl⟩
        · simp [hx]
    · rw [if_neg hq]
      refine ⟨hnd, hlen, fun x => ?_⟩
      rw [hentry]
      by_cases hx : x = e
      · subst hx
        rw [if_pos rfl]
        exact iff_of_false (hnotin q) fun k => hq k.2.symm
      · rw [if_neg hx]
        exact hm x
  · obtain ⟨hnd, hlen, hm⟩ := h3 q
    have hother : ∀ x : PieceRef, x.entry ≠ e →
        (namesQueued ((s.modEntry e fun _ => newEntry p r d).modPort p fun po => po.acceptEntry e d) q x ↔
          namesQueued s q x) := fun x hx => by
      unfold namesQueued
      rw [hentry, if_neg hx]
    have hnew : ∀ x : PieceRef, x.entry = e →
        (namesQueued ((s.modEntry e fun _ => newEntry p r d).modPort p fun po => po.acceptEntry e d) q x ↔
          p = q ∧ (d.pieces[x.second.toNat]?).isSome) := fun x hx => by
      unfold namesQueued
      rw [hentry, if_pos hx, Entry.piece_eq]
      show p = q ∧ _ ∧ (d.pieces[x.second.toNat]?).map _ = _ ↔ _
      refine and_congr_right fun _ => ?_
      cases hpc : d.pieces[x.second.toNat]? with
      | none => simp
      | some pc => simp [newEntry_state, hd.2.1 pc (List.mem_of_getElem? hpc)]
    rw [hport]
    by_cases hq : q = p
    · subst hq
      rw [if_pos rfl]
      refine ⟨hnd.append (refsOf_nodup e d.pieces) fun x hx hr => hnoref q x hx (mem_refsOf.1 hr).1, ?_, fun x => ?_⟩
      · have := refsOf_length e d.pieces
        show ((s.port q).queue ++ refsOf e d.pieces).length ≤ 16
        rw [List.length_append]
        omega
      · show x ∈ (s.port q).queue ++ refsOf e d.pieces ↔ _
        rw [List.mem_append, mem_refsOf]
        by_cases hx : x.entry = e
        · rw [hnew x hx]
          simp only [hx, true_and]
          exact or_iff_right fun k => hnoref q x k hx
        · rw [hother x hx, ← hm]
          simp [hx]
    · rw [if_neg hq]
      refine ⟨hnd, hlen, fun x => ?_⟩
      by_cases hx : x.entry = e
      · rw [hnew x hx]
        exact iff_of_false (fun k => hnoref q x k hx) fun k => hq k.1.symm
      · rw [hother x hx]
        exact hm x
  · have hpres : (s.port q).presented = some x := by
      rw [hport] at hx
      split at hx
      · next hq => rw [hq]; exact hx
      · exact hx
    obtain ⟨hm, hdone⟩ := h4 q x hpres
    have hxe : x ≠ e := fun k => hnotin q (k ▸ hm)
    rw [hentry, if_neg hxe, hport]
    refine ⟨?_, hdone⟩
    split
    · next hq => exact List.mem_append_left _ (hq ▸ hm)
    · exact hm

/-! ## Delivery (R129, R132) -/

/-- The presented response has gone out, and its entry is ORPHANED or FREE. -/
theorem deliver_table {s : State} {p : PortId} {e : EntryId} (h : TableLaw s) (he : (s.port p).presented = some e) :
    TableLaw ((retireEntry e s).modPort p fun po => { po with presented := none })
      ∧ inFlightOn ((retireEntry e s).modPort p fun po => { po with presented := none }) = inFlightOn s := by
  obtain ⟨h1, h2, h3, h4⟩ := tableLaw_iff.1 h
  obtain ⟨hm, hdone⟩ := h4 p e he
  obtain ⟨hfree, hport⟩ := ((h2 p).2.2 e).1 hm
  have hlaw := h1 e
  obtain ⟨hlen, _, _, _, hdoneLaw, _⟩ := id hlaw
  obtain ⟨_, hqueued⟩ := hdoneLaw hdone
  have hnot : ∀ b, ((s.entry e).piece b).map (·.status) ≠ some .queued := fun b k => by
    obtain ⟨pc, hpc, hst⟩ := Option.map_eq_some_iff.1 k
    exact hqueued pc (Entry.piece_mem hpc) hst
  have hu : TableLaw (s.modPort p fun po => { po with presented := none }) := by
    refine tableLaw_iff.2 ⟨h1, h2.congr (fun q => ?_) fun _ => ⟨Iff.rfl, rfl⟩, h3.congr (fun q => ?_) fun _ _ => Iff.rfl,
      fun q d hd => ?_⟩
    · rw [modPort_port]
      split
      · next hq => rw [hq]
      · rfl
    · rw [modPort_port]
      split
      · next hq => rw [hq]
      · rfl
    · rw [modPort_port] at hd ⊢
      split at hd
      · cases hd
      · next hq =>
        rw [if_neg hq]
        exact h4 q d hd
  have hpres : ∀ q, ((s.modPort p fun po => { po with presented := none }).port q).presented ≠ some e := fun q k => by
    rw [modPort_port] at k
    split at k
    · cases k
    · next hq =>
      obtain ⟨hmq, _⟩ := h4 q e k
      exact hq ((((h2 q).2.2 e).1 hmq).2.symm.trans hport)
  unfold retireEntry
  split
  · next hout =>
    refine ⟨hu.modEntry (e := e) (f := fun en => { en with state := .orphaned, prepared := none }) ?_ ?_ rfl
      (fun _ => Iff.rfl) (fun q k => absurd k (hpres q)), inFlightOn_congr fun d => ?_⟩
    · exact ⟨hlen, fun k => (by cases k), fun k => (by cases k), fun k => (by cases k), fun k => (by cases k),
        fun _ => ⟨rfl, hout, hqueued⟩⟩
    · exact iff_of_false (fun k => by cases k) hfree
    · rw [modPort_entry, modEntry_entry]
      split
      · next hd =>
        subst hd
        rfl
      · rfl
  · next hout =>
    have hcomm : (freeEntry e s).modPort p (fun po => { po with presented := none })
        = freeEntry e (s.modPort p fun po => { po with presented := none }) := by
      unfold freeEntry
      rw [modPort_entry, hport]
      unfold State.modPort State.modEntry
      simp [State.port]
    rw [hcomm]
    have hin : (s.entry e).inFlight = false := by
      rw [Bool.eq_false_iff]
      intro k
      obtain ⟨pc, hpc, hst⟩ := (Entry.inFlight_iff _).1 k
      exact hout ((Entry.anyOutstanding_iff _).2 ⟨pc, hpc, hst.resolve_left (hqueued pc hpc)⟩)
    refine ⟨freeEntry_table hu hnot hpres, inFlightOn_congr fun d => ?_⟩
    rw [freeEntry_entry]
    split
    · next hd =>
      subst hd
      funext k q
      rw [Entry.directed_of_not_inFlight hin, Entry.directed_of_not_inFlight Entry.blank_inFlight]
    · rfl

/-! ## The datapath reset (R130, R131) -/

theorem Entry.undelivered_iff (en : Entry) :
    en.undelivered = true ↔ en.state = .queued ∨ en.state = .issued ∨ en.state = .doneWaiting := by
  simp [Entry.undelivered, or_assoc]

theorem Piece.afterReset_status (pc : Piece) :
    pc.afterReset.status ≠ .queued ∧ (pc.afterReset.status = .outstanding ↔ pc.status = .outstanding) := by
  unfold Piece.afterReset
  dsimp only
  cases h : pc.status <;> simp

theorem Entry.afterReset_of_undelivered {en : Entry} (h : en.undelivered = true) :
    en.afterReset =
      { en with state := .doneWaiting, prepared := some refusedReset, pieces := en.pieces.map Piece.afterReset } :=
  if_pos h

theorem Entry.afterReset_of_delivered {en : Entry} (h : ¬ en.undelivered = true) : en.afterReset = en := if_neg h

section Reset

variable {en : Entry} (h : EntryLaw en)
include h

theorem EntryLaw.delivered_not_queued (hu : ¬ en.undelivered = true) {pc : Piece} (hpc : pc ∈ en.pieces) :
    pc.status ≠ .queued := by
  obtain ⟨_, hfree, _, _, _, horphan⟩ := h
  rw [Entry.undelivered_iff] at hu
  cases hs : en.state with
  | free =>
    rw [hfree hs] at hpc
    cases hpc
  | orphaned => exact (horphan hs).2.2 pc hpc
  | queued => simp [hs] at hu
  | issued => simp [hs] at hu
  | doneWaiting => simp [hs] at hu

theorem EntryLaw.afterReset : EntryLaw en.afterReset := by
  by_cases hu : en.undelivered = true
  · rw [Entry.afterReset_of_undelivered hu]
    refine ⟨by simpa using h.1, fun k => (by cases k), fun k => (by cases k), fun k => (by cases k),
      fun _ => ⟨by simp, fun x hx => ?_⟩, fun k => (by cases k)⟩
    obtain ⟨y, _, rfl⟩ := List.mem_map.1 hx
    exact y.afterReset_status.1
  · rw [Entry.afterReset_of_delivered hu]
    exact h

theorem EntryLaw.afterReset_not_queued (b : Bool) : (en.afterReset.piece b).map (·.status) ≠ some .queued := by
  intro k
  obtain ⟨pc, hpc, hst⟩ := Option.map_eq_some_iff.1 k
  have hmem := Entry.piece_mem hpc
  by_cases hu : en.undelivered = true
  · rw [Entry.afterReset_of_undelivered hu] at hmem
    obtain ⟨y, _, rfl⟩ := List.mem_map.1 hmem
    exact y.afterReset_status.1 hst
  · rw [Entry.afterReset_of_delivered hu] at hmem
    exact h.delivered_not_queued hu hmem hst

end Reset

/-- What an entry counts as before a datapath reset it counts as behind it, unless the reset lowers its count (R131). -/
theorem Entry.afterReset_directed (en : Entry) (k : Access) (p : PageId) :
    (en.afterReset.directed k p).toNat + (en.lowersAtReset k p).toNat = (en.directed k p).toNat := by
  by_cases hu : en.undelivered = true
  · have hin : en.afterReset.inFlight = en.anyOutstanding := by
      rw [Bool.eq_iff_iff, Entry.inFlight_iff, Entry.anyOutstanding_iff, Entry.afterReset_of_undelivered hu]
      simp only [List.mem_map]
      constructor
      · rintro ⟨_, ⟨y, hy, rfl⟩, hst⟩
        exact ⟨y, hy, y.afterReset_status.2.1 (hst.resolve_left y.afterReset_status.1)⟩
      · rintro ⟨y, hy, hst⟩
        exact ⟨_, ⟨y, hy, rfl⟩, Or.inr (y.afterReset_status.2.2 hst)⟩
    have hout : en.anyOutstanding = true → en.inFlight = true := fun k => by
      obtain ⟨y, hy, hst⟩ := (Entry.anyOutstanding_iff _).1 k
      exact (Entry.inFlight_iff _).2 ⟨y, hy, Or.inr hst⟩
    have hdirected : en.afterReset.directed k p = (en.kind == k && en.target.map (·.page) == some p && en.anyOutstanding) := by
      unfold Entry.directed
      rw [hin, Entry.afterReset_of_undelivered hu]
    rw [hdirected, Entry.directed, Entry.lowersAtReset, hu]
    cases ho : en.anyOutstanding with
    | true => simp [hout ho]
    | false => simp
  · rw [Entry.afterReset_of_delivered hu]
    simp [Entry.lowersAtReset, hu]

theorem resetTables_entry (s : State) (e : EntryId) : (resetTables s).entry e = (s.entry e).afterReset := by
  simp [resetTables, State.entry]

theorem resetTables_port (s : State) (p : PortId) : (resetTables s).port p = (s.port p).afterReset := by
  simp [resetTables, State.port]

theorem resetTables_table {s : State} (h : TableLaw s) : TableLaw (resetTables s) := by
  rw [tableLaw_iff] at h ⊢
  obtain ⟨h1, h2, _, _⟩ := h
  refine ⟨fun e => ?_, h2.congr (fun p => ?_) fun e => ?_, fun p => ?_, fun p e k => ?_⟩
  · rw [resetTables_entry]
    exact (h1 e).afterReset
  · rw [resetTables_port]
    rfl
  · rw [resetTables_entry]
    by_cases hu : (s.entry e).undelivered = true
    · rw [Entry.afterReset_of_undelivered hu]
      refine ⟨iff_of_false (fun k => by cases k) fun k => ?_, rfl⟩
      simp [Entry.undelivered_iff, k] at hu
    · rw [Entry.afterReset_of_delivered hu]
      exact ⟨Iff.rfl, rfl⟩
  · rw [resetTables_port]
    refine ⟨List.nodup_nil, Nat.zero_le _, fun r => iff_of_false (List.not_mem_nil) fun k => ?_⟩
    obtain ⟨_, _, hst⟩ := k
    rw [resetTables_entry] at hst
    exact (h1 r.entry).afterReset_not_queued _ hst
  · rw [resetTables_port] at k
    cases k

theorem resetTables_inFlightOn (s : State) (k : Access) (p : PageId) :
    inFlightOn (resetTables s) k p + loweredAtReset s k p = inFlightOn s k p := by
  have hlowered : loweredAtReset s k p = ∑ e : EntryId, ((s.entry e).lowersAtReset k p).toNat := length_filter_entries _
  rw [inFlightOn_sum, hlowered, inFlightOn_sum, ← Finset.sum_add_distrib]
  refine Finset.sum_congr rfl fun e _ => ?_
  rw [resetTables_entry]
  exact (s.entry e).afterReset_directed k p

end Sys2Proof.Machine

/-! PROOFS. What stream records say of pages, and what counts of a page are worth: every operation of the rotation controller
keeps both (R21, R28, R31, R33, R40, R59). -/

namespace Sys2Proof.Machine

/-! ## One stream record and one page descriptor -/

/-- What the record of stream n says of page p, the descriptor bears out: it owns the page, its fill page is FILLING, its ready
and held pages are PUBLISHED, and a slot is among the holders of what it holds. -/
structure Agrees (n : StreamId) (st : Stream) (p : PageId) (pg : Page) : Prop where
  ring : p ∈ st.ring → pg.owner = some n
  fill : st.fillPage = some p → pg.owner = some n ∧ pg.stage = .filling
  ready : p ∈ st.ready → pg.owner = some n ∧ pg.stage = .published
  held : ∀ x, (st.slot x).held = some p → pg.owner = some n ∧ pg.stage = .published ∧ pg.holds x = true

/-- The counts of a page are c, and are 0 where its stage says so; an UNASSIGNED page has no owner. -/
structure Page.Counted (c : Access → Nat) (pg : Page) : Prop where
  write : pg.writeCount = c .write
  read : pg.readCount = c .read
  unowned : pg.stage = .unassigned → pg.owner = none
  free : pg.stage = .unassigned ∨ pg.stage = .free → pg.writeCount = 0 ∧ pg.readCount = 0
  done : pg.stage = .sealed ∨ pg.stage = .published → pg.writeCount = 0

namespace Agrees

variable {n : StreamId} {st st' : Stream} {p : PageId} {pg pg' : Page}

/-- A record that says no more. -/
theorem weaken (h : Agrees n st p pg) (hr : p ∈ st'.ring → p ∈ st.ring) (hf : st'.fillPage = some p → st.fillPage = some p)
    (hy : p ∈ st'.ready → p ∈ st.ready) (hx : ∀ x, (st'.slot x).held = some p → (st.slot x).held = some p) :
    Agrees n st' p pg :=
  ⟨fun k => h.ring (hr k), fun k => h.fill (hf k), fun k => h.ready (hy k), fun x k => h.held x (hx x k)⟩

/-- The records of other streams do not name the page. -/
theorem other (h : Agrees n st p pg) (ho : pg.owner ≠ some n) (pg' : Page) : Agrees n st p pg' :=
  ⟨fun k => absurd (h.ring k) ho, fun k => absurd (h.fill k).1 ho, fun k => absurd (h.ready k).1 ho,
    fun x k => absurd (h.held x k).1 ho⟩

/-- Owner, stage and holders are all that records speak of. -/
theorem page (h : Agrees n st p pg) (ho : pg'.owner = pg.owner) (hs : pg'.stage = pg.stage)
    (hx : ∀ x, pg.holds x = true → pg'.holds x = true) : Agrees n st p pg' := by
  refine ⟨fun k => ?_, fun k => ?_, fun k => ?_, fun x k => ?_⟩ <;> rw [ho]
  · exact h.ring k
  · rw [hs]
    exact h.fill k
  · rw [hs]
    exact h.ready k
  · rw [hs]
    obtain ⟨k1, k2, k3⟩ := h.held x k
    exact ⟨k1, k2, hx x k3⟩

/-- A page that is neither FILLING nor PUBLISHED stands in the ring at most. -/
theorem unnamed (h : Agrees n st p pg) (hf : pg.stage ≠ .filling) (hp : pg.stage ≠ .published) (ho : pg'.owner = pg.owner) :
    Agrees n st p pg' :=
  ⟨fun k => ho.trans (h.ring k), fun k => absurd (h.fill k).2 hf, fun k => absurd (h.ready k).2 hp,
    fun x k => absurd (h.held x k).2.1 hp⟩

/-- A page that is off the ready list and unheld, and not FILLING, stands in the ring at most. -/
theorem dropped (h : Agrees n st p pg) (hf : pg.stage ≠ .filling) (hu : pg.stage = .published → pg.unheld = true)
    (hy : p ∉ st.ready) (ho : pg'.owner = pg.owner) : Agrees n st p pg' := by
  refine ⟨fun k => ho.trans (h.ring k), fun k => absurd (h.fill k).2 hf, fun k => absurd k hy, fun x k => ?_⟩
  obtain ⟨_, hpub, hholds⟩ := h.held x k
  obtain ⟨ha, hb⟩ := (Page.unheld_iff pg).1 (hu hpub)
  cases x
  · exact absurd (ha.symm.trans hholds) Bool.false_ne_true
  · exact absurd (hb.symm.trans hholds) Bool.false_ne_true

theorem filter_ready (h : Agrees n st p pg) (q : PageId) :
    Agrees n { st with ready := st.ready.filter (· != q) } p pg :=
  h.weaken id id (fun k => (List.mem_filter.1 k).1) fun _ => id

end Agrees

namespace Page.Counted

variable {c : Access → Nat} {pg pg' : Page}

/-- A change of an assigned page that leaves its counts, to a stage that asks nothing of them. -/
theorem restage (h : pg.Counted c) (hw : pg'.writeCount = pg.writeCount) (hr : pg'.readCount = pg.readCount)
    (hu : pg'.stage ≠ .unassigned) (hf : pg'.stage = .free → pg.writeCount = 0 ∧ pg.readCount = 0)
    (hd : pg'.stage = .sealed ∨ pg'.stage = .published → pg.writeCount = 0) : pg'.Counted c := by
  refine ⟨hw.trans h.write, hr.trans h.read, fun k => absurd k hu, fun k => ?_, fun k => hw.trans (hd k)⟩
  rw [hw, hr]
  exact hf (k.resolve_left hu)

/-- A change that leaves counts, stage and owner. -/
theorem congr (h : pg.Counted c) (hw : pg'.writeCount = pg.writeCount) (hr : pg'.readCount = pg.readCount)
    (hs : pg'.stage = pg.stage) (ho : pg'.owner = pg.owner) : pg'.Counted c := by
  refine ⟨hw.trans h.write, hr.trans h.read, ?_, ?_, ?_⟩ <;> rw [hs]
  · rw [ho]
    exact h.unowned
  · rw [hw, hr]
    exact h.free
  · rw [hw]
    exact h.done

/-- A page without counts in the place of an UNASSIGNED or FREE one. -/
theorem fresh (h : pg.Counted c) (hf : pg.stage = .unassigned ∨ pg.stage = .free) (hw : pg'.writeCount = 0)
    (hr : pg'.readCount = 0) (hu : pg'.stage = .unassigned → pg'.owner = none) : pg'.Counted c := by
  obtain ⟨h1, h2⟩ := h.free hf
  exact ⟨hw.trans (h1.symm.trans h.write), hr.trans (h2.symm.trans h.read), hu, fun _ => ⟨hw, hr⟩, fun _ => hw⟩

theorem released (h : pg.Counted c) : pg.released.Counted c := by
  rw [Page.released_eq]
  refine h.restage rfl rfl ?_ (fun k => ?_) fun k => ?_ <;> dsimp only at * <;> split at * <;> simp_all

end Page.Counted

/-! ## All of them -/

/-- Stream records and page descriptors agree, and the counts of page p are c. -/
structure PoolSound (c : Access → PageId → Nat) (s : State) : Prop where
  streams : ∀ n p, Agrees n (s.stream n) p (s.page p)
  pages : ∀ p, (s.page p).Counted fun k => c k p

namespace PoolSound

variable {c : Access → PageId → Nat} {s t : State}

theorem congr (h : PoolSound c s) (hs : t.streams = s.streams) (hp : t.pages = s.pages) : PoolSound c t := by
  have h1 : ∀ n, t.stream n = s.stream n := fun n => by simp [State.stream, hs]
  have h2 : ∀ p, t.page p = s.page p := fun p => by simp [State.page, hp]
  refine ⟨fun n p => ?_, fun p => ?_⟩
  · rw [h1, h2]
    exact h.streams n p
  · rw [h2]
    exact h.pages p

theorem raise (h : PoolSound c s) (r : EventRecord) : PoolSound c (s.raise r) := h.congr (by simp) (by simp)

theorem modStream (h : PoolSound c s) {n : StreamId} {f : Stream → Stream}
    (hf : ∀ p, Agrees n (f (s.stream n)) p (s.page p)) : PoolSound c (s.modStream n f) := by
  refine ⟨fun m p => ?_, h.pages⟩
  rw [modStream_stream]
  split
  · next hm =>
    subst hm
    exact hf p
  · exact h.streams m p

/-- A change of fields that do not name pages. -/
theorem modRun (h : PoolSound c s) {n : StreamId} {f : Stream → Stream}
    (hf : ∀ st, (f st).ring = st.ring ∧ (f st).fillPage = st.fillPage ∧ (f st).ready = st.ready
      ∧ ∀ x, ((f st).slot x).held = (st.slot x).held) : PoolSound c (s.modStream n f) := by
  obtain ⟨hr, hfill, hy, hx⟩ := hf (s.stream n)
  refine h.modStream fun p => (h.streams n p).weaken ?_ ?_ ?_ fun x => ?_
  · rw [hr]
    exact id
  · rw [hfill]
    exact id
  · rw [hy]
    exact id
  · rw [hx]
    exact id

theorem raise_modRun (h : PoolSound c s) {n : StreamId} {f : Stream → Stream} {r : EventRecord}
    (hf : ∀ st, (f st).ring = st.ring ∧ (f st).fillPage = st.fillPage ∧ (f st).ready = st.ready
      ∧ ∀ x, ((f st).slot x).held = (st.slot x).held) : PoolSound c ((s.modStream n f).raise r) :=
  (h.modRun hf).raise r

theorem modSlot (h : PoolSound c s) {n : StreamId} {x : SlotId} {f : Slot → Slot} (hf : ∀ sl, (f sl).held = sl.held) :
    PoolSound c (s.modSlot n x f) :=
  h.modRun fun st => by
    refine ⟨?_, ?_, ?_, fun y => ?_⟩
    · cases x <;> rfl
    · cases x <;> rfl
    · cases x <;> rfl
    · by_cases hy : y = x
      · rw [hy, Stream.modSlot_slot_same, hf]
      · rw [Stream.modSlot_slot_other st hy]

/-- One descriptor rewritten, with its count. -/
theorem modPage (h : PoolSound c s) {c' : Access → PageId → Nat} {p : PageId} {g : Page → Page}
    (hp : ∀ n, Agrees n (s.stream n) p (g (s.page p))) (hc : (g (s.page p)).Counted fun k => c' k p)
    (hother : ∀ q, q ≠ p → ∀ k, c' k q = c k q) : PoolSound c' (s.modPage p g) := by
  refine ⟨fun n q => ?_, fun q => ?_⟩ <;> rw [modPage_page] <;> split
  · next hq =>
    subst hq
    exact hp n
  · exact h.streams n q
  · next hq =>
    subst hq
    exact hc
  · next hq =>
    simp only [hother q hq]
    exact h.pages q

/-- One descriptor rewritten and a stream record with it, where no other stream owns the page. -/
theorem update (h : PoolSound c s) {n : StreamId} {p : PageId} {g : Page → Page} {f : Stream → Stream}
    (ho : (s.page p).owner = some n ∨ (s.page p).owner = none) (hp : Agrees n (f (s.stream n)) p (g (s.page p)))
    (hq : ∀ q, q ≠ p → Agrees n (f (s.stream n)) q (s.page q)) (hc : (g (s.page p)).Counted fun k => c k p) :
    PoolSound c ((s.modPage p g).modStream n f) := by
  have hother : ∀ m, m ≠ n → (s.page p).owner ≠ some m := fun m hm k => by
    rcases ho with ho | ho <;> rw [ho] at k
    · exact hm (Option.some.inj k).symm
    · cases k
  refine ⟨fun m q => ?_, fun q => ?_⟩
  · rw [modStream_stream, modStream_page, modPage_page, modPage_stream, modPage_stream]
    by_cases hm : m = n <;> by_cases hqp : q = p <;> simp only [hm, hqp, if_true, if_false]
    · exact hp
    · exact hq q hqp
    · exact (h.streams m p).other (hother m hm) _
    · exact h.streams m q
  · rw [modStream_page, modPage_page]
    split
    · next hqp =>
      subst hqp
      exact hc
    · exact h.pages q

end PoolSound

/-! ## Release, retirement and publication (R31, R54 to R57, R76 to R78) -/

section Operations

variable {c : Access → PageId → Nat} {s : State}

theorem release_sound {p : PageId} (h : PoolSound c s) (hf : (s.page p).stage ≠ .filling)
    (hu : (s.page p).stage = .published → (s.page p).unheld = true) : PoolSound c (release p s) := by
  have hpage : (s.page p).released.Counted fun k => c k p := (h.pages p).released
  have hagrees : ∀ n, Agrees n { s.stream n with ready := (s.stream n).ready.filter (· != p) } p (s.page p).released := fun n =>
    ((h.streams n p).filter_ready p).dropped hf hu (by simp) rfl
  unfold release
  cases ho : (s.page p).owner with
  | none => exact h.modPage (fun n => (h.streams n p).other (by simp [ho]) _) hpage fun _ _ _ => rfl
  | some n =>
    exact h.update (f := fun st => { st with ready := st.ready.filter (· != p) }) (Or.inl ho) (hagrees n)
      (fun q _ => (h.streams n q).filter_ready p) hpage

theorem retireTest_sound {n : StreamId} {p : PageId} (h : PoolSound c s) : PoolSound c (retireTest n s p) := by
  rcases retireTest_cases n s p with ⟨_, e⟩ | ⟨hr, e⟩ <;> rw [e]
  · exact h
  · obtain ⟨hs, ha, hb, _⟩ := retires_iff.1 hr
    exact release_sound h (by simp [hs]) fun _ => (Page.unheld_iff _).2 ⟨ha, hb⟩

theorem retireFold_sound {n : StreamId} (l : List PageId) {s : State} (h : PoolSound c s) :
    PoolSound c (l.foldl (retireTest n) s) := by
  induction l generalizing s with
  | nil => exact h
  | cons p rest ih => exact ih (retireTest_sound h)

theorem retireAll_sound {n : StreamId} (h : PoolSound c s) : PoolSound c (retireAll n s) := retireFold_sound _ h

theorem publish_sound {n : StreamId} {p : PageId} (h : PoolSound c s) (hp : p ∈ (s.stream n).ring)
    (hs : (s.page p).stage = .sealed) : PoolSound c (publish n p s) := by
  have ho := (h.streams n p).ring hp
  have hold := (h.streams n p).unnamed (pg' := { s.page p with stage := .published }) (by simp [hs]) (by simp [hs]) rfl
  refine retireAll_sound (h.update (Or.inl ho) ?_ (fun q hq => ?_) ?_)
  · exact ⟨hold.ring, hold.fill, fun _ => ⟨ho, rfl⟩, hold.held⟩
  · exact (h.streams n q).weaken id id (fun k => by simpa [hq] using k) fun _ => id
  · exact (h.pages p).restage rfl rfl (by simp) (by simp) fun _ => (h.pages p).done (Or.inl hs)

theorem discard_sound {n : StreamId} {p : PageId} (h : PoolSound c s) (hs : (s.page p).stage = .sealed) :
    PoolSound c (discard n p s) := by
  refine release_sound (h.raise_modRun fun _ => ⟨rfl, rfl, rfl, fun _ => rfl⟩) ?_ ?_
  · simp [hs]
  · simp [hs]

theorem oldestPending_pending {n : StreamId} {p : PageId} (h : oldestPending s n = some p) : Pending s n p := by
  have hfold : ∀ (l : List PageId) (best : Option PageId), l.foldl (olderPage s) best = some p → best = some p ∨ p ∈ l := by
    intro l
    induction l with
    | nil => exact fun best k => Or.inl k
    | cons q rest ih =>
      intro best k
      rcases ih _ k with k | k
      · unfold olderPage at k
        split at k
        · cases k
          exact Or.inr (List.mem_cons_self ..)
        · split at k <;> cases k
          · exact Or.inr (List.mem_cons_self ..)
          · exact Or.inl rfl
      · exact Or.inr (List.mem_cons_of_mem _ k)
  rcases hfold _ _ h with k | k
  · cases k
  · exact mem_pendingPages.1 k

theorem chain_sound {n : StreamId} (fuel : Nat) {s : State} (h : PoolSound c s) : PoolSound c (chain fuel n s) := by
  induction fuel generalizing s with
  | zero => exact h
  | succ fuel ih =>
    unfold chain
    cases hold : oldestPending s n with
    | none => exact h
    | some p =>
      dsimp only
      split
      · next hs =>
        replace hs : (s.page p).stage = .sealed := by simpa using hs
        split
        · exact ih (discard_sound h hs)
        · exact ih (publish_sound h (oldestPending_pending hold).1 hs)
      · exact h

/-- A CLOSING page whose last write is gone seals (R53). -/
theorem sealPage_sound {n : StreamId} {p : PageId} (h : PoolSound c s) (hs : (s.page p).stage = .closing)
    (hw : (s.page p).writeCount = 0) : PoolSound c (sealPage n p s) := by
  refine chain_sound _ (h.modPage (fun m => (h.streams m p).unnamed (by simp [hs]) (by simp [hs]) rfl) ?_ fun _ _ _ => rfl)
  exact (h.pages p).restage rfl rfl (by simp) (by simp) fun _ => hw

/-! ## Counts (R28 to R30, R35, R93) -/

theorem endStop_sound {n : StreamId} (h : PoolSound c s) : PoolSound c (endStop n s) := by
  unfold endStop
  split
  · exact h.raise_modRun fun st => ⟨rfl, rfl, rfl, fun _ => rfl⟩
  · exact h

theorem examinePage_sound {k : Access} {p : PageId} (h : PoolSound c s) : PoolSound c (examinePage k p s) := by
  unfold examinePage
  dsimp only
  cases hs : (s.page p).stage <;> dsimp only
  case closing =>
    split
    · next hw =>
      simp only [Bool.and_eq_true, beq_iff_eq] at hw
      cases (s.page p).owner with
      | none => exact h
      | some n => exact sealPage_sound h hs hw.2
    · exact h
  case retiring =>
    split
    · next hw =>
      simp only [Bool.and_eq_true, Page.idle_iff] at hw
      have hfree : PoolSound c (s.modPage p fun q => { q with stage := .free }) :=
        h.modPage (fun m => (h.streams m p).unnamed (by simp [hs]) (by simp [hs]) rfl)
          ((h.pages p).restage rfl rfl (by simp) (fun _ => hw.1) (by simp)) fun _ _ _ => rfl
      cases (s.page p).owner with
      | none => exact hfree
      | some n => exact endStop_sound hfree
    · exact h
  all_goals exact h

/-- The counts with one of page p lowered. -/
def lowered (c : Access → PageId → Nat) (k : Access) (p : PageId) : Access → PageId → Nat := fun k' q =>
  if k' = k ∧ q = p then c k' q - 1 else c k' q

/-- The counts with one of page p raised. -/
def raised (c : Access → PageId → Nat) (k : Access) (p : PageId) : Access → PageId → Nat := fun k' q =>
  if k' = k ∧ q = p then c k' q + 1 else c k' q

theorem Page.lowerCount_counted {k : Access} {p : PageId} {pg : Page} (h : pg.Counted fun k => c k p) :
    (pg.lowerCount k).Counted fun k' => lowered c k p k' p := by
  obtain ⟨hw, hr, hu, hf, hd⟩ := h
  cases k
  · refine ⟨by simpa [Page.lowerCount, lowered] using hw, by simp [Page.lowerCount, lowered, hr], hu, fun s => ?_, hd⟩
    simp [Page.lowerCount, hf s]
  · refine ⟨by simp [Page.lowerCount, lowered, hw], by simpa [Page.lowerCount, lowered] using hr, hu, fun s => ?_, fun s => ?_⟩
    · simp [Page.lowerCount, hf s]
    · simp [Page.lowerCount, hd s]

theorem lowerCount_sound {k : Access} {p : PageId} (h : PoolSound c s) :
    PoolSound (lowered c k p) (Machine.lowerCount k p s) := by
  refine examinePage_sound (h.modPage (fun n => ?_) (Page.lowerCount_counted (h.pages p)) fun q hq k' => ?_)
  · refine (h.streams n p).page ?_ ?_ fun x hx => ?_
    · cases k <;> rfl
    · cases k <;> rfl
    · cases k <;> cases x <;> exact hx
  · simp [lowered, hq]

theorem Page.raiseCount_counted {k : Access} {p : PageId} {pg : Page} (h : pg.Counted fun k => c k p)
    (hs : pg.stage = .filling ∨ pg.stage = .published ∧ k = .read) :
    (pg.raiseCount k).Counted fun k' => raised c k p k' p := by
  obtain ⟨hw, hr, _, _, hd⟩ := h
  have hassigned : pg.stage ≠ .unassigned := by rcases hs with hs | ⟨hs, _⟩ <;> simp [hs]
  have hfree : pg.stage ≠ .free := by rcases hs with hs | ⟨hs, _⟩ <;> simp [hs]
  cases k
  · exact ⟨by simp [Page.raiseCount, raised, hw], by simp [Page.raiseCount, raised, hr], fun h => absurd h hassigned,
      fun h => absurd h (not_or.2 ⟨hassigned, hfree⟩), hd⟩
  · replace hs : pg.stage = .filling := by simpa using hs
    exact ⟨by simp [Page.raiseCount, raised, hw], by simp [Page.raiseCount, raised, hr], fun h => absurd h hassigned,
      fun h => absurd h (not_or.2 ⟨hassigned, hfree⟩), by simp [Page.raiseCount, hs]⟩

/-- A count is raised on a fill page, or on a held page by a READ (R28, R108, R109). -/
theorem raiseCount_sound {k : Access} {p : PageId} {n : StreamId} (h : PoolSound c s)
    (hp : (s.stream n).fillPage = some p ∨ (∃ x, (s.slot n x).held = some p) ∧ k = .read) :
    PoolSound (raised c k p) (s.modPage p (Page.raiseCount k)) := by
  have hstage : (s.page p).stage = .filling ∨ (s.page p).stage = .published ∧ k = .read := by
    rcases hp with hfill | ⟨⟨x, hx⟩, hk⟩
    · exact Or.inl ((h.streams n p).fill hfill).2
    · exact Or.inr ⟨((h.streams n p).held x hx).2.1, hk⟩
  refine h.modPage (fun m => ?_) (Page.raiseCount_counted (h.pages p) hstage) fun q hq k' => ?_
  · refine (h.streams m p).page ?_ ?_ fun x hx => ?_
    · cases k <;> rfl
    · cases k <;> rfl
    · cases k <;> cases x <;> exact hx
  · simp [raised, hq]

theorem markDamaged_sound {p : PageId} (h : PoolSound c s) : PoolSound c (s.modPage p Page.markDamaged) := by
  refine h.modPage (fun n => ?_) ?_ fun _ _ _ => rfl <;> rw [Page.markDamaged_eq]
  · exact (h.streams n p).page rfl rfl fun x hx => by cases x <;> exact hx
  · exact (h.pages p).congr rfl rfl rfl rfl

end Operations

end Sys2Proof.Machine

/-! PROOFS. Boundaries, takes, commands and resets keep what stream records say of pages and what counts are worth. -/

namespace Sys2Proof.Machine

section Strobes

variable {c : Access → PageId → Nat} {s : State}

/-! ## Boundaries (R43 to R51) -/

/-- A page of stream n that stands on no list and in no slot may become its fill page. -/
theorem makeFill_sound {n : StreamId} {p : PageId} (h : PoolSound c s) (ho : (s.page p).owner = some n)
    (hy : p ∉ (s.stream n).ready) (hx : ∀ x, (s.slot n x).held ≠ some p) : PoolSound c (makeFill n p s) := by
  refine h.update (Or.inl ho) ?_ (fun q hq => ?_) ?_
  · exact ⟨fun _ => ho, fun _ => ⟨ho, rfl⟩, fun k => absurd k hy, fun x k => absurd k (hx x)⟩
  · exact (h.streams n q).weaken id (fun k => absurd (Option.some.inj k).symm hq) id fun _ => id
  · exact (h.pages p).restage rfl rfl (by simp) (by simp) (by simp)

theorem not_held_of_unheld {n : StreamId} {p : PageId} (h : PoolSound c s) (hu : (s.page p).unheld = true) (x : SlotId) :
    (s.slot n x).held ≠ some p := fun k => by
  obtain ⟨_, _, hholds⟩ := (h.streams n p).held x k
  obtain ⟨ha, hb⟩ := (Page.unheld_iff _).1 hu
  cases x
  · exact absurd (ha.symm.trans hholds) Bool.false_ne_true
  · exact absurd (hb.symm.trans hholds) Bool.false_ne_true

theorem dropFrame_sound {n : StreamId} {p : PageId} (h : PoolSound c s) : PoolSound c (dropFrame n p s) :=
  (h.modStream (f := fun st => { st with ready := st.ready.filter (· != p), dropped := st.dropped + 1 }) fun q =>
    (h.streams n q).weaken id id (fun k => (List.mem_filter.1 k).1) fun _ => id).raise _

theorem seekFill_sound {n : StreamId} {p : PageId} {t : State} (h : PoolSound c s) (e : seekFill n s = some (p, t)) :
    PoolSound c t := by
  rcases seekFill_cases n s with ⟨q, hq, k⟩ | ⟨q, _, _, hq, k⟩ | ⟨_, k, _⟩ <;> rw [k] at e <;> cases e
  · have hfree := firstFree_stage hq
    have ho := (h.streams n p).ring (List.mem_of_find?_eq_some hq)
    refine makeFill_sound h ho (fun k => ?_) fun x k => ?_
    · exact absurd ((h.streams n p).ready k).2 (by simp [hfree])
    · exact absurd ((h.streams n p).held x k).2.1 (by simp [hfree])
  · have hready : p ∈ (s.stream n).ready := List.mem_of_find?_eq_some hq
    have hu : (s.page p).unheld = true := by
      have hc := List.find?_some hq
      simp only [Bool.and_eq_true] at hc
      exact hc.1.2
    refine makeFill_sound (dropFrame_sound h) ?_ ?_ (not_held_of_unheld (dropFrame_sound h) ?_)
    · simpa [dropFrame] using ((h.streams n p).ready hready).1
    · simp [dropFrame]
    · simpa [dropFrame] using hu

theorem closeFill_sound {n : StreamId} {f : Word32} (h : PoolSound c s) : PoolSound c (closeFill n f s) := by
  unfold closeFill
  cases hfill : (s.stream n).fillPage with
  | none => exact h
  | some p =>
    dsimp only
    split
    · next hs =>
      replace hs : (s.page p).stage = .filling := by simpa using hs
      have ho := ((h.streams n p).fill hfill).1
      have hclosing : PoolSound c ((s.modPage p fun pg => { pg with stage := .closing, frame := some f }).modStream n
          fun st => { st with fillPage := none }) := by
        refine h.update (Or.inl ho) ?_ (fun q _ => ?_) ?_
        · refine ⟨fun _ => ho, fun k => (by cases k), fun k => ?_, fun x k => ?_⟩
          · exact absurd ((h.streams n p).ready k).2 (by simp [hs])
          · exact absurd ((h.streams n p).held x k).2.1 (by simp [hs])
        · exact (h.streams n q).weaken id (fun k => by cases k) id fun _ => id
        · exact (h.pages p).restage rfl rfl (by simp) (by simp) (by simp)
      split
      · next hw => exact sealPage_sound hclosing (by simp) (by simpa using hw)
      · exact hclosing
    · exact h

theorem closeFrame_sound {n : StreamId} {f : Word32} (h : PoolSound c s) : PoolSound c (closeFrame n f s) := by
  have hc := closeFill_sound (n := n) (f := f) h
  unfold closeFrame
  dsimp only
  cases e : seekFill n (closeFill n f s) with
  | some r => exact seekFill_sound hc e
  | none =>
    refine PoolSound.raise (hc.modStream fun p => ?_) _
    exact (hc.streams n p).weaken id (fun k => by cases k) id fun _ => id

theorem sinkFrame_sound {n : StreamId} (h : PoolSound c s) : PoolSound c (sinkFrame n s) := by
  have hc : PoolSound c (countSunk n s) := h.modRun fun _ => ⟨rfl, rfl, rfl, fun _ => rfl⟩
  unfold sinkFrame
  dsimp only
  cases e : seekFill n (countSunk n s) with
  | some r => exact PoolSound.raise_modRun (seekFill_sound hc e) fun _ => ⟨rfl, rfl, rfl, fun _ => rfl⟩
  | none => exact hc

theorem takenBoundary_sound {n : StreamId} (h : PoolSound c s) : PoolSound c (takenBoundary n s) := by
  have hb : PoolSound c (beginClosing n s) := h.modRun fun _ => ⟨rfl, rfl, rfl, fun _ => rfl⟩
  unfold takenBoundary closingBoundary
  dsimp only
  split
  · exact h.modRun fun _ => ⟨rfl, rfl, rfl, fun _ => rfl⟩
  · split
    · exact sinkFrame_sound hb
    · split
      · exact hb.modRun fun _ => ⟨rfl, rfl, rfl, fun _ => rfl⟩
      · exact closeFrame_sound hb

/-! ## Takes (R65 to R71) -/

theorem candidate_ready {n : StreamId} {x : SlotId} {p : PageId} (h : candidate s n x = some p) : p ∈ (s.stream n).ready := by
  unfold candidate at h
  dsimp only at h
  split at h
  · split at h
    · next hl =>
      split at h
      · cases h
        exact List.mem_of_getLast? hl
      · cases h
    · cases h
  · exact List.mem_of_find?_eq_some h

/-- The slot lets go of the page it holds: its record names none, and it is no longer among the holders. -/
theorem leaveHeld_sound {n : StreamId} {x : SlotId} (h : PoolSound c s) :
    PoolSound c ((leaveHeld n x s).modSlot n x fun sl => { sl with held := none }) := by
  have hslot : ∀ (st : Stream) (y : SlotId) (p : PageId), ((st.modSlot x fun sl => { sl with held := none }).slot y).held = some p →
      y ≠ x ∧ (st.slot y).held = some p := fun st y p k => by
    by_cases hy : y = x
    · rw [hy, Stream.modSlot_slot_same] at k
      cases k
    · rw [Stream.modSlot_slot_other st hy] at k
      exact ⟨hy, k⟩
  have hrest : ∀ p, Agrees n ((s.stream n).modSlot x fun sl => { sl with held := none }) p (s.page p) := fun p =>
    (h.streams n p).weaken (by cases x <;> exact id) (by cases x <;> exact id) (by cases x <;> exact id)
      fun y k => (hslot _ y p k).2
  unfold leaveHeld
  cases hheld : (s.slot n x).held with
  | none => exact h.modStream hrest
  | some o =>
    obtain ⟨ho, _, _⟩ := (h.streams n o).held x hheld
    refine h.update (Or.inl ho) ?_ (fun q _ => hrest q) ?_
    · have hr := hrest o
      refine ⟨?_, ?_, ?_, fun y k => ?_⟩
      · simpa using hr.ring
      · simpa using hr.fill
      · simpa using hr.ready
      · obtain ⟨hy, _⟩ := hslot _ y o k
        simpa [hy] using hr.held y k
    · exact (h.pages o).congr (by simp) (by simp) (by simp) (by simp)

/-- A slot that holds nothing takes a ready page. -/
theorem takeReady_sound {n : StreamId} {x : SlotId} {p : PageId} {frame : Option Word32} (h : PoolSound c s)
    (hp : p ∈ (s.stream n).ready) :
    PoolSound c ((s.modPage p fun pg => pg.setHolder x true).modSlot n x fun sl => sl.taken p frame) := by
  obtain ⟨ho, hs⟩ := (h.streams n p).ready hp
  have hpage : Agrees n (s.stream n) p ((s.page p).setHolder x true) :=
    (h.streams n p).page (by simp) (by simp) fun y k => by
      by_cases hy : y = x
      · simp [hy]
      · simpa [hy] using k
  refine h.update (Or.inl ho) ?_ (fun q hq => ?_) ?_
  · refine ⟨?_, ?_, ?_, fun y k => ?_⟩
    · cases x <;> exact hpage.ring
    · cases x <;> exact hpage.fill
    · cases x <;> exact hpage.ready
    · by_cases hy : y = x
      · simp [hy, ho, hs]
      · rw [Stream.modSlot_slot_other _ hy] at k
        exact hpage.held y k
  · refine (h.streams n q).weaken (by cases x <;> exact id) (by cases x <;> exact id) (by cases x <;> exact id) fun y k => ?_
    by_cases hy : y = x
    · rw [hy, Stream.modSlot_slot_same] at k
      exact absurd (Option.some.inj k).symm hq
    · rwa [Stream.modSlot_slot_other _ hy] at k
  · exact (h.pages p).congr (by simp) (by simp) (by simp) (by simp)

theorem retireAfterTake_sound {n : StreamId} {old : Option PageId} (h : PoolSound c s) :
    PoolSound c (retireAfterTake n old s) := by
  have h1 : PoolSound c (match old with | some o => retireTest n s o | none => s) := by
    cases old with
    | none => exact h
    | some o => exact retireTest_sound h
  unfold retireAfterTake
  dsimp only
  split
  · exact h1
  · exact retireAll_sound h1

theorem successfulTake_sound {n : StreamId} {x : SlotId} {p : PageId} (h : PoolSound c s) (hp : p ∈ (s.stream n).ready) :
    PoolSound c (successfulTake n x p s) := by
  have hready : p ∈ (((leaveHeld n x s).modSlot n x fun sl => { sl with held := none }).stream n).ready := by
    have hstream : (leaveHeld n x s).stream n = s.stream n := by
      unfold leaveHeld
      cases (s.slot n x).held <;> rfl
    rw [modSlot_stream_same, hstream]
    cases x <;> exact hp
  have htaken := takeReady_sound (x := x) (frame := (s.page p).frame) (leaveHeld_sound (x := x) h) hready
  refine retireAfterTake_sound (htaken.congr ?_ rfl)
  have hover : ∀ st : Stream, (st.modSlot x fun sl => { sl with held := none }).modSlot x
      (fun sl => sl.taken p (s.page p).frame) = st.modSlot x fun sl => sl.taken p (s.page p).frame := fun st => by
    cases x <;> rfl
  simp [State.modSlot, State.modStream, State.stream, hover]

theorem repeatTake_sound {n : StreamId} {x : SlotId} (h : PoolSound c s) : PoolSound c (repeatTake n x s) := by
  have h1 : PoolSound c (s.modSlot n x fun sl =>
      { sl with repeats := sl.repeats + 1, repeatsInRow := min (sl.repeatsInRow + 1) 255 }) := h.modSlot fun _ => rfl
  unfold repeatTake staleTest
  split
  · exact (h1.raise _).modSlot fun _ => rfl
  · exact h1

/-! ## Commands -/

theorem cmdSetStream_sound {a : SetStreamArgs} (h : PoolSound c s) : PoolSound c (cmdSetStream a s).state := by
  rcases cmdSetStream_state a s with e | ⟨g, _, _, _, e⟩ <;> rw [e]
  · exact h
  · exact h.modRun fun _ => ⟨rfl, rfl, rfl, fun x => by cases x <;> rfl⟩

theorem cmdClearStream_sound {b : Byte} (h : PoolSound c s) : PoolSound c (cmdClearStream b s).state := by
  rcases cmdClearStream_state b s with e | ⟨n, _, e⟩ <;> rw [e]
  · exact h
  · exact h.modStream fun p => (h.streams n p).weaken (fun k => by cases k) (fun k => by cases k) (fun k => by cases k)
      fun x k => by cases x <;> cases k

theorem cmdSetConsumer_sound {a : SetConsumerArgs} (h : PoolSound c s) : PoolSound c (cmdSetConsumer a s).state := by
  rcases cmdSetConsumer_state a s with e | ⟨n, x, _, e | ⟨_, e⟩⟩ <;> rw [e]
  · exact h
  · exact h.modSlot fun _ => rfl
  · exact h.modSlot fun _ => rfl

theorem cmdAssignPage_sound {a : AssignPageArgs} (h : PoolSound c s) : PoolSound c (cmdAssignPage a s).state := by
  rcases cmdAssignPage_state a s with e | ⟨p, n, _, hu, _, _, _, e⟩ <;> rw [e]
  · exact h
  have ho := (h.pages p).unowned hu
  refine h.update (g := fun _ => Page.assignedTo n a) (Or.inr ho) ?_ (fun q hq => ?_) ?_
  · have hr := (h.streams n p).other (by simp [ho]) (Page.assignedTo n a)
    exact ⟨fun _ => rfl, hr.fill, hr.ready, hr.held⟩
  · exact (h.streams n q).weaken (fun k => by simpa [hq] using k) id id fun _ => id
  · exact (h.pages p).fresh (Or.inl hu) rfl rfl fun k => by cases k

theorem cmdUnassignPage_sound {b : Byte} (h : PoolSound c s) : PoolSound c (cmdUnassignPage b s).state := by
  rcases cmdUnassignPage_state b s with e | ⟨p, n, hf, ho, _, e⟩ <;> rw [e]
  · exact h
  refine h.update (g := fun _ => Page.blank) (Or.inl ho) ?_ (fun q _ => ?_) ?_
  · have hr := (h.streams n p).unnamed (pg' := s.page p) (by simp [hf]) (by simp [hf]) rfl
    refine ⟨fun k => by simp at k, fun k => ?_, fun k => ?_, fun x k => ?_⟩
    · exact absurd (hr.fill k).2 (by simp [hf])
    · exact absurd (hr.ready k).2 (by simp [hf])
    · exact absurd (hr.held x k).2.1 (by simp [hf])
  · exact (h.streams n q).weaken (fun k => (List.mem_filter.1 k).1) id id fun _ => id
  · exact (h.pages p).fresh (Or.inr hf) rfl rfl fun _ => rfl

theorem startOn_page (n : StreamId) (p : PageId) (s : State) (q : PageId) :
    (startOn n p s).page q =
      if q = p then (s.page q).firstFill
      else if q ∈ (s.stream n).ring then { s.page q with damaged := false } else s.page q := by
  show (startPages s (s.stream n).ring p).get q = _
  rw [startPages, mapAll_get]
  simp only [beq_iff_eq, List.contains_iff_mem]
  rfl

theorem startOn_stream (n : StreamId) (p : PageId) (s : State) (m : StreamId) :
    (startOn n p s).stream m = if m = n then (s.stream n).started p else s.stream m :=
  modStream_stream { s with pages := startPages s (s.stream n).ring p } n m fun st => st.started p

theorem startOn_sound {n : StreamId} {p : PageId} (h : PoolSound c s) (hp : p ∈ (s.stream n).ring)
    (hf : (s.page p).stage = .free) : PoolSound c (startOn n p s) := by
  have ho := (h.streams n p).ring hp
  refine ⟨fun m q => ?_, fun q => ?_⟩
  · rw [startOn_stream, startOn_page]
    by_cases hq : q = p
    · subst hq
      rw [if_pos rfl]
      by_cases hm : m = n
      · subst hm
        rw [if_pos rfl]
        exact ⟨fun _ => ho, fun _ => ⟨ho, rfl⟩, fun k => (by cases k), fun x k => by cases x <;> cases k⟩
      · rw [if_neg hm]
        exact (h.streams m q).unnamed (by simp [hf]) (by simp [hf]) rfl
    · rw [if_neg hq]
      have hold : Agrees m (s.stream m) q (if q ∈ (s.stream n).ring then { s.page q with damaged := false } else s.page q) := by
        split
        · exact (h.streams m q).page rfl rfl fun x hx => by cases x <;> exact hx
        · exact h.streams m q
      split
      · next hm =>
        subst hm
        exact hold.weaken id (fun k => absurd (Option.some.inj k).symm hq) (fun k => by cases k)
          fun x k => by cases x <;> cases k
      · exact hold
  · rw [startOn_page]
    split
    · next hq =>
      subst hq
      exact (h.pages q).fresh (Or.inr hf) rfl rfl fun k => by cases k
    · split
      · exact (h.pages q).congr rfl rfl rfl rfl
      · exact h.pages q

theorem cmdStartStream_sound {b : Byte} (h : PoolSound c s) : PoolSound c (cmdStartStream b s).state := by
  rcases cmdStartStream_state b s with e | ⟨n, p, rest, _, hf, _, hr, e⟩ <;> rw [e]
  · exact h
  · exact startOn_sound h (by simp [hr]) (ringFree_head hf hr)

theorem stopPages_get (s : State) (ring : List PageId) (q : PageId) :
    (stopPages s ring).get q = if q ∈ ring ∧ (s.page q).inCycle = true then (s.page q).released else s.page q := by
  rw [stopPages, mapAll_get]
  simp only [Bool.and_eq_true, List.contains_iff_mem]
  rfl

theorem stopRunning_sound {n : StreamId} (h : PoolSound c s) : PoolSound c (stopRunning n s) := by
  refine endStop_sound ⟨fun m q => ?_, fun q => ?_⟩
  · rw [modStream_stream]
    have hring : ∀ k, q ∈ (s.stream k).ring → ((stopPages s (s.stream n).ring).get q).owner = some k := fun k hq => by
      rw [stopPages_get]
      split <;> exact (h.streams k q).ring hq
    show Agrees m _ q ((stopPages s (s.stream n).ring).get q)
    split
    · next hm =>
      subst hm
      exact ⟨hring m, fun k => (by cases k), fun k => (by cases k), fun x k => by cases x <;> cases k⟩
    · next hm =>
      rw [stopPages_get]
      split
      · next hq =>
        refine (h.streams m q).other (fun k => hm ?_) _
        exact Option.some.inj (k.symm.trans ((h.streams n q).ring hq.1))
      · exact h.streams m q
  · show ((stopPages s (s.stream n).ring).get q).Counted _
    rw [stopPages_get]
    split
    · exact (h.pages q).released
    · exact h.pages q

theorem cmdStopStream_sound {b : Byte} (h : PoolSound c s) : PoolSound c (cmdStopStream b s).state := by
  unfold cmdStopStream
  split
  · exact h
  · split
    case h_4 => exact stopRunning_sound h
    all_goals exact h

theorem cmdFreeze_sound {b t o : Byte} (h : PoolSound c s) : PoolSound c (cmdFreeze b t o s).state := by
  unfold cmdFreeze
  split
  · next n target v _ _ _ =>
    split
    · exact h
    · cases target with
      | producer => exact h.modRun (f := fun st => { st with freeze := v }) fun _ => ⟨rfl, rfl, rfl, fun _ => rfl⟩
      | slot x => exact h.modSlot (f := fun sl => { sl with freeze := v }) fun _ => rfl
  · exact h

theorem clearGroup_sound {g : CounterGroup} (h : PoolSound c s) : PoolSound c (clearGroup g s) := by
  unfold clearGroup
  cases g with
  | stream n => exact h.modRun fun _ => ⟨rfl, rfl, rfl, fun _ => rfl⟩
  | slot n x => exact h.modSlot fun _ => rfl
  | port p => exact h.congr rfl rfl
  | device => exact h.congr rfl rfl

/-! ## The datapath reset (R37, R95) -/

theorem Page.Counted.afterReset {c c' : Access → Nat} {pg : Page} {w r : Nat} (h : pg.Counted c)
    (hw : c' .write + w = c .write) (hr : c' .read + r = c .read) : (pg.afterReset w r).Counted c' := by
  have hlowered : Page.Counted c'
      { pg with writeCount := pg.writeCount - w, readCount := pg.readCount - r, damaged := false } := by
    obtain ⟨h1, h2, h3, h4, h5⟩ := h
    refine ⟨by dsimp only; omega, by dsimp only; omega, h3, fun k => ?_, fun k => ?_⟩
    · obtain ⟨k1, k2⟩ := h4 k
      exact ⟨by dsimp only; omega, by dsimp only; omega⟩
    · have k1 := h5 k
      dsimp only
      omega
  unfold Page.afterReset
  dsimp only
  split
  · exact hlowered
  · exact hlowered.released

theorem Page.afterReset_owner (pg : Page) (w r : Nat) : (pg.afterReset w r).owner = pg.owner := by
  unfold Page.afterReset
  dsimp only
  split <;> rfl

theorem resetTables_sound {c' : Access → PageId → Nat} (h : PoolSound c s)
    (hc : ∀ k p, c' k p + loweredAtReset s k p = c k p) : PoolSound c' (resetTables s) := by
  have hpage : ∀ p, (resetTables s).page p = (s.page p).afterReset (loweredAtReset s .write p) (loweredAtReset s .read p) :=
    fun p => by simp [resetTables, State.page]
  have hstream : ∀ n, (resetTables s).stream n = (s.stream n).afterReset := fun n => by simp [resetTables, State.stream]
  refine ⟨fun n p => ?_, fun p => ?_⟩ <;> rw [hpage]
  · rw [hstream]
    refine ⟨fun k => ?_, fun k => (by cases k), fun k => (by cases k), fun x k => by cases x <;> cases k⟩
    rw [Page.afterReset_owner]
    exact (h.streams n p).ring k
  · exact (h.pages p).afterReset (hc .write p) (hc .read p)

end Strobes

end Sys2Proof.Machine

/-! PROOFS. The law of the transaction table together with the pool that its entries count on: every event keeps both. -/

namespace Sys2Proof.Machine

/-- The law of the table, and a sound pool whose counts are the numbers of entries in flight (R28). -/
structure RunSound (s : State) : Prop where
  table : TableLaw s
  pool : PoolSound (inFlightOn s) s

namespace RunSound

variable {s t : State}

theorem congr (h : RunSound s) (he : t.entries = s.entries) (hp : t.ports = s.ports) (hs : t.streams = s.streams)
    (hg : t.pages = s.pages) : RunSound t := by
  refine ⟨h.table.samePorts he hp, ?_⟩
  rw [inFlightOn_entries he]
  exact h.pool.congr hs hg

/-- An operation of the rotation controller that keeps the pool sound. -/
theorem rotated (h : RunSound s) (k : RotationFrame s t) (hp : PoolSound (inFlightOn s) t) : RunSound t := by
  refine ⟨h.table.samePorts k.entries k.ports, ?_⟩
  rw [inFlightOn_entries k.entries]
  exact hp

/-- An operation of the table that leaves streams, pages and what is in flight. -/
theorem moved (h : RunSound s) (ht : TableLaw t) (hc : inFlightOn t = inFlightOn s) (hs : t.streams = s.streams)
    (hg : t.pages = s.pages) : RunSound t := by
  refine ⟨ht, ?_⟩
  rw [hc]
  exact h.pool.congr hs hg

theorem raise (h : RunSound s) (r : EventRecord) : RunSound (s.raise r) := h.congr (by simp) (by simp) (by simp) (by simp)

end RunSound

section Traffic

variable {s : State}

/-! ## Presentation, the end of a quiesce, grants -/

theorem present_sound {p : PortId} (h : RunSound s) : RunSound (present p s) :=
  h.moved (present_table p h.table) (inFlightOn_entries (present_entries p s)) (present_streams p s) (present_pages p s)

theorem endQuiesce_sound (h : RunSound s) : RunSound (endQuiesce s) := by
  unfold endQuiesce
  split
  · exact RunSound.raise (h.congr (t := { s with datapath := .normal }) rfl rfl rfl rfl) _
  · exact h

theorem grantPort_sameRotation (p : PortId) (s : State) : SameRotation s (grantPort p s) := by
  unfold grantPort
  split
  · exact ⟨rfl, rfl⟩
  · unfold sendPiece
    dsimp only
    split <;> exact ⟨rfl, rfl⟩

theorem grantLoop_sameRotation (fuel : Nat) (s : State) : SameRotation s (grantLoop fuel s) := by
  induction fuel generalizing s with
  | zero => exact ⟨rfl, rfl⟩
  | succ fuel ih =>
    unfold grantLoop
    split
    · have hgrant : SameRotation s (grant s) := by
        rcases grant_cases s with ⟨p, _, e⟩ | ⟨_, p, _, e⟩ | ⟨_, _, e⟩ <;> rw [e]
        · exact grantPort_sameRotation p s
        · exact grantPort_sameRotation p (reloadCredits s)
        · exact ⟨rfl, rfl⟩
      exact ⟨(ih _).1.trans hgrant.1, (ih _).2.trans hgrant.2⟩
    · exact ⟨rfl, rfl⟩

theorem runGrants_sound (h : RunSound s) : RunSound (runGrants s) := by
  obtain ⟨ht, hc⟩ := runGrants_table h.table
  obtain ⟨hs, hg⟩ := grantLoop_sameRotation s.indications s
  exact h.moved ht hc hs hg

/-! ## Acceptance (R101, R123) -/

/-- What an accepted request adds to the entries in flight on its page. -/
theorem inFlightOn_accept {s t : State} {e : EntryId} {p : PortId} {r : Request} {d : Decision} (hd : d.Proper)
    (hfree : (s.entry e).inFlight = false) (ht : ∀ x, t.entry x = if x = e then newEntry p r d else s.entry x) :
    (∀ g, d.target = some g → inFlightOn t = raised (inFlightOn s) r.kind g.page)
      ∧ (d.target = none → inFlightOn t = inFlightOn s) := by
  have hone : ∀ k q, inFlightOn t k q = inFlightOn s k q + ((newEntry p r d).directed k q).toNat := fun k q => by
    have h := inFlightOn_one (s := s) (t := t) (e := e) (fun x hx => by rw [ht, if_neg hx]) k q
    rwa [Entry.directed_of_not_inFlight hfree, ht, if_pos rfl] at h
  refine ⟨fun g hg => ?_, fun hn => ?_⟩ <;> funext k q <;> rw [hone]
  · have hdir := newEntry_directed hd (p := p) (r := r) k q
    unfold raised
    by_cases hkq : k = r.kind ∧ q = g.page
    · rw [if_pos hkq, hdir.2 ⟨hkq.1.symm, by simp [hg, hkq.2]⟩]
      rfl
    · have hnot : (newEntry p r d).directed k q = false := Bool.eq_false_iff.2 fun h => by
        obtain ⟨h1, h2⟩ := hdir.1 h
        simp only [hg, Option.map_some, Option.some.injEq] at h2
        exact hkq ⟨h1.symm, h2.symm⟩
      rw [if_neg hkq, hnot]
      rfl
  · have hnot : (newEntry p r d).directed k q = false := Bool.eq_false_iff.2 fun h => by
      obtain ⟨_, h2⟩ := (newEntry_directed hd k q).1 h
      simp [hn] at h2
    rw [hnot]
    rfl

/-- A request with a proper decision is accepted into a FREE entry; the page it is directed to is a fill page, or a held page
that it reads. -/
theorem acceptInto_sound {e : EntryId} {p : PortId} {r : Request} {d : Decision} (h : RunSound s) (hd : d.Proper)
    (hpage : ∀ g, d.target = some g →
      ∃ n, (s.stream n).fillPage = some g.page ∨ (∃ x, (s.slot n x).held = some g.page) ∧ r.kind = .read)
    (hfree : (s.entry e).state = .free) (horder : (s.port p).order.length < 12)
    (hqueue : (s.port p).queue.length + d.pieces.length ≤ 16) : RunSound (acceptInto e p r d s) := by
  have htable := accept_table (r := r) h.table hd hfree horder hqueue
  have hblank : (s.entry e).inFlight = false := by
    rw [(h.table.1 e).2.1 hfree]
    rfl
  unfold acceptInto
  dsimp only
  generalize hu : (s.modEntry e fun _ => newEntry p r d).modPort p
    (fun po => po.acceptEntry e d) = u at htable ⊢
  obtain ⟨hsome, hnone⟩ := inFlightOn_accept (s := s) (t := u) hd hblank fun x => by
    rw [← hu, modPort_entry, modEntry_entry]
  have hstream : ∀ n, u.stream n = s.stream n := fun n => by
    rw [← hu]
    rfl
  have hpool : PoolSound (inFlightOn s) u := by
    rw [← hu]
    exact h.pool.congr rfl rfl
  have htarget : RunSound (raiseTarget r.kind d.target u) := by
    unfold raiseTarget
    cases htg : d.target with
    | none =>
      refine ⟨htable, ?_⟩
      rw [hnone htg]
      exact hpool
    | some g =>
      obtain ⟨n, hn⟩ := hpage g htg
      have hsame : inFlightOn (u.modPage g.page (Page.raiseCount r.kind)) = inFlightOn u := inFlightOn_entries rfl
      refine ⟨htable.samePorts rfl rfl, ?_⟩
      dsimp only
      rw [hsame, hsome g htg]
      refine raiseCount_sound (n := n) hpool ?_
      simpa only [State.slot, hstream] using hn
  unfold raiseReport
  cases d.report with
  | none => exact htarget
  | some rec => exact htarget.raise rec

theorem setWaiting_sound {p : PortId} {w : Option Request} (h : RunSound s) : RunSound (setWaiting p w s) :=
  h.congr rfl rfl rfl rfl

theorem acceptHead_sound {p : PortId} {r : Request} (h : RunSound s) : RunSound (acceptHead p r s) := by
  unfold acceptHead
  cases he : acceptEntry s p r with
  | none => exact setWaiting_sound h
  | some e =>
    obtain ⟨hfree, horder, hqueue⟩ := acceptEntry_some he
    exact runGrants_sound (present_sound (acceptInto_sound (setWaiting_sound h) (steer_proper s p r)
      (fun _ hg => steer_page hg) hfree horder hqueue))

theorem retested_sound {u : State} (k : Retested s u) (h : RunSound s) : RunSound u := by
  induction k with
  | done => exact h
  | accept _ _ _ _ _ _ _ ih => exact ih (acceptHead_sound h)

theorem testWaiting_sound (h : RunSound s) : RunSound (testWaiting s) := retested_sound (testWaiting_retested s) h

/-! ## Completion (R125 to R127, R132) -/

theorem pieceReported_sound {en : Entry} {pc : Piece} {c : Completion} (h : RunSound s) :
    RunSound (pieceReported en pc c s) := by
  have hfault : RunSound ((s.modPort en.port fun po => { po with faults := po.faults + 1 }).raise (faultRecord en pc)) := by
    have hport : TableLaw (s.modPort en.port fun po => { po with faults := po.faults + 1 }) :=
      h.table.modPort fun _ => ⟨rfl, rfl, rfl⟩
    exact (h.moved hport (inFlightOn_entries rfl) rfl rfl).raise _
  unfold pieceReported
  split
  · exact h
  · unfold failPiece reportDamage
    split
    · exact hfault.rotated (modPage_frame _ _ _) (markDamaged_sound hfault.pool)
    · exact hfault

/-- The count of an entry's page falls when nothing of the entry is in flight any more (R29). -/
theorem lowerTarget_sound {v : State} {e : EntryId} {en : Entry} (ht : TableLaw v) (hp : PoolSound (inFlightOn s) v)
    (hd : ∀ d, d ≠ e → v.entry d = s.entry d) (hin : (s.entry e).inFlight = true) (hout : (v.entry e).inFlight = false)
    (hkind : en.kind = (s.entry e).kind) (htarget : en.target = (s.entry e).target) : RunSound (lowerTarget en v) := by
  have hone : ∀ k q, inFlightOn v k q + ((s.entry e).directed k q).toNat = inFlightOn s k q := fun k q => by
    have h := inFlightOn_one hd k q
    rwa [Entry.directed_of_not_inFlight hout] at h
  unfold lowerTarget
  cases hg : en.target with
  | none =>
    refine ⟨ht, ?_⟩
    have hsame : inFlightOn v = inFlightOn s := by
      funext k q
      have hnot : (s.entry e).directed k q = false := Bool.eq_false_iff.2 fun k => by
        obtain ⟨_, h2, _⟩ := Entry.directed_iff.1 k
        simp [← htarget, hg] at h2
      have h := hone k q
      rwa [hnot] at h
    rw [hsame]
    exact hp
  | some g =>
    have hframe := lowerCount_frame en.kind g.page v
    refine ⟨ht.samePorts hframe.entries hframe.ports, ?_⟩
    have hlowered : inFlightOn (Machine.lowerCount en.kind g.page v) = lowered (inFlightOn s) en.kind g.page := by
      rw [inFlightOn_entries hframe.entries]
      funext k q
      have h := hone k q
      have hdir : (s.entry e).directed k q = true ↔ k = en.kind ∧ q = g.page := by
        rw [Entry.directed_iff, hin, ← hkind, ← htarget, hg]
        simp [eq_comm]
      unfold lowered
      by_cases hkq : k = en.kind ∧ q = g.page
      · rw [if_pos hkq]
        rw [hdir.2 hkq, Bool.toNat_true] at h
        omega
      · rw [if_neg hkq]
        rwa [Bool.eq_false_iff.2 (mt hdir.1 hkq)] at h
    rw [hlowered]
    exact lowerCount_sound hp

theorem settleEntry_doneWaiting {e : EntryId} (h : (s.entry e).state = .doneWaiting) :
    settleEntry e s = lowerTarget (s.entry e) s := by
  unfold settleEntry
  dsimp only
  rw [h]

theorem settleEntry_orphaned {e : EntryId} (h : (s.entry e).state = .orphaned) :
    settleEntry e s = lowerTarget (s.entry e) (freeEntry e s) := by
  unfold settleEntry
  dsimp only
  rw [h]

theorem Entry.finish_status (en : Entry) (b : Bool) :
    (en.finish.piece b).map (·.status) = (en.piece b).map (·.status) := by
  rw [Entry.piece_eq, Entry.piece_eq]
  show ((en.pieces.map fun p => { p with readData := [] })[b.toNat]?).map _ = _
  rw [List.getElem?_map, Option.map_map]
  rfl

section Completed

variable {e : EntryId} {b : Bool} {pc : Piece} {c : Completion} (h : RunSound s) (hp : (s.entry e).piece b = some pc)
  (ho : pc.status = .outstanding)
include hp ho

theorem inFlight_of_outstanding : (s.entry e).inFlight = true :=
  (Entry.inFlight_iff _).2 ⟨pc, Entry.piece_mem hp, Or.inr ho⟩

include h

/-- A completed piece whose entry still has one in flight, or does not wait for it. -/
theorem completed_table
    (hin : (s.entry e).state ≠ .doneWaiting → ((s.entry e).modPiece b fun pc => pc.complete (s.entry e) c).inFlight = true) :
    TableLaw (s.modEntry e fun en => en.modPiece b fun pc => pc.complete en c) := by
  have hlaw := EntryLaw.completed hp (h.table.1 e) ho hin
  refine h.table.modEntry hlaw ?_ ?_ (completed_queued hp ho) fun p hpr => ?_
  · rw [Entry.modPiece_eq]
  · rw [Entry.modPiece_eq]
  · rw [Entry.modPiece_eq]
    exact ((tableLaw_iff.1 h.table).2.2.2 p e hpr).2

/-- The end of an entry whose last piece has completed: it was ISSUED, DONE-WAITING or ORPHANED. -/
theorem settled_sound (hin : ((s.entry e).modPiece b fun pc => pc.complete (s.entry e) c).inFlight = false) :
    RunSound (settleEntry e (s.modEntry e fun en => en.modPiece b fun pc => pc.complete en c)) := by
  have hflying := inFlight_of_outstanding hp ho
  have hlaw := h.table.1 e
  have hmod : (s.entry e).modPiece b (fun pc => pc.complete (s.entry e) c)
      = { s.entry e with pieces := (s.entry e).pieces.modify b.toNat fun pc => pc.complete (s.entry e) c } :=
    Entry.modPiece_eq _ _ _
  have hpres : ∀ p, (s.port p).presented = some e → (s.entry e).state = .doneWaiting := fun p k =>
    ((tableLaw_iff.1 h.table).2.2.2 p e k).2
  have hother : ∀ (f : Entry → Entry) (d : EntryId), d ≠ e → (s.modEntry e f).entry d = s.entry d := fun f d hd =>
    modEntry_entry_other s hd f
  rcases hlaw.of_outstanding (Entry.piece_mem hp) ho with hs | hs | hs
  · rw [settleEntry_issued (by rw [modEntry_entry_same, hmod]; exact hs), modEntry_entry_same, modEntry_modEntry]
    refine lowerTarget_sound (s := s) (e := e) (h.table.modEntry ?_ ?_ ?_ (fun b' => ?_) fun _ _ => rfl)
      (h.pool.congr rfl rfl) (hother _) hflying ?_ (by rw [hmod]) (by rw [hmod])
    · refine EntryLaw.finished ?_ hin
      rw [hmod]
      simpa using hlaw.1
    · exact iff_of_false (fun k => by cases k) (by simp [hs])
    · rw [hmod]
      rfl
    · rw [Entry.finish_status]
      exact completed_queued hp ho b'
    · rw [modEntry_entry_same, Entry.finish_inFlight]
      exact hin
  · rw [settleEntry_doneWaiting (by rw [modEntry_entry_same, hmod]; exact hs), modEntry_entry_same]
    refine lowerTarget_sound (s := s) (e := e) (completed_table h hp ho fun k => absurd hs k)
      (h.pool.congr rfl rfl) (hother _) hflying ?_ (by rw [hmod]) (by rw [hmod])
    rw [modEntry_entry_same]
    exact hin
  · rw [settleEntry_orphaned (by rw [modEntry_entry_same, hmod]; exact hs), modEntry_entry_same,
      freeEntry_modEntry e _ s (by rw [hmod])]
    obtain ⟨_, _, _, _, _, horphan⟩ := hlaw
    refine lowerTarget_sound (s := s) (e := e) (freeEntry_table h.table (fun b' k => ?_) fun p k => ?_)
      (h.pool.congr rfl rfl) (fun d hd => ?_) hflying ?_ (by rw [hmod]) (by rw [hmod])
    · obtain ⟨x, hx, hst⟩ := Option.map_eq_some_iff.1 k
      exact (horphan hs).2.2 x (Entry.piece_mem hx) hst
    · have hdone := hpres p k
      rw [hs] at hdone
      cases hdone
    · rw [freeEntry_entry, if_neg hd]
    · rw [freeEntry_entry, if_pos rfl]
      rfl

theorem settleDone_sound :
    RunSound (settleDone e (s.modEntry e fun en => en.modPiece b fun pc => pc.complete en c)) := by
  have hflying := inFlight_of_outstanding hp ho
  unfold settleDone
  rw [modEntry_entry_same]
  split
  · next hin =>
    refine h.moved (completed_table h hp ho fun _ => hin) (inFlightOn_congr fun d => ?_) rfl rfl
    rw [modEntry_entry]
    split
    · next hd =>
      subst hd
      funext k q
      unfold Entry.directed
      rw [hin, hflying, Entry.modPiece_eq]
    · rfl
  · next hin =>
    rw [Bool.not_eq_true] at hin
    exact settled_sound h hp ho hin

end Completed

end Traffic

end Sys2Proof.Machine

/-! PROOFS. Every event keeps the transaction table and the pool sound, and so no consumer reads a page that is being written
(O60). -/

namespace Sys2Proof.Machine

section Events

variable {s : State}

/-! ## Completions and deliveries -/

theorem outstandingPiece_some {c : Completion} {r : PieceRef} {pc : Piece} (h : outstandingPiece s c = some (r, pc)) :
    (s.entry r.entry).piece r.second = some pc ∧ pc.status = .outstanding := by
  unfold outstandingPiece at h
  split at h
  · cases h
  · split at h
    · next hp =>
      split at h
      · next ho =>
        cases h
        exact ⟨hp, by simpa using ho⟩
      · cases h
    · cases h

theorem completePiece_sound {c : Completion} {r : PieceRef} {pc : Piece} (h : RunSound s)
    (hp : (s.entry r.entry).piece r.second = some pc) (ho : pc.status = .outstanding) :
    RunSound (completePiece r pc c s) := by
  rw [completePiece_eq]
  refine present_sound (endQuiesce_sound (settleDone_sound (pc := pc) (pieceReported_sound h) ?_ ho))
  rw [pieceReported_entry]
  exact hp

theorem complete_sound {c : Completion} (h : RunSound s) : RunSound (complete c s) := by
  unfold complete
  cases hout : outstandingPiece s c with
  | none => exact h.congr rfl rfl rfl rfl
  | some x =>
    obtain ⟨hp, ho⟩ := outstandingPiece_some hout
    exact testWaiting_sound (completePiece_sound h hp ho)

theorem sendResponse_sound {p : PortId} {e : EntryId} (h : RunSound s) : RunSound (sendResponse p e s) := by
  unfold sendResponse
  split
  · exact h.congr rfl rfl rfl rfl
  · exact h

theorem retireEntry_sameRotation (e : EntryId) (s : State) : SameRotation s (retireEntry e s) := by
  unfold retireEntry
  split <;> exact ⟨rfl, rfl⟩

theorem deliver_sound {p : PortId} (h : RunSound s) : RunSound (deliver p s) := by
  unfold deliver
  cases he : (s.port p).presented with
  | none => exact h
  | some e =>
    have hsent : RunSound (sendResponse p e s) := sendResponse_sound h
    have hpresented : ((sendResponse p e s).port p).presented = some e := by
      unfold sendResponse
      split <;> exact he
    obtain ⟨ht, hc⟩ := deliver_table hsent.table hpresented
    obtain ⟨hs, hg⟩ := retireEntry_sameRotation e (sendResponse p e s)
    exact testWaiting_sound (present_sound (endQuiesce_sound (hsent.moved ht hc hs hg)))

/-! ## Boundaries and takes -/

theorem boundary_sound {n : StreamId} (h : RunSound s) : RunSound (boundary n s) := by
  unfold boundary
  split
  · exact testWaiting_sound (h.rotated (takenBoundary_frame n s) (takenBoundary_sound h.pool))
  · exact h

theorem take_sound {n : StreamId} {x : SlotId} (h : RunSound s) : RunSound (take n x s) := by
  unfold take
  split
  · split
    · exact h.rotated (modSlot_frame s n x _) (h.pool.modSlot fun _ => rfl)
    · cases hc : candidate s n x with
      | none => exact h.rotated (repeatTake_frame n x s) (repeatTake_sound h.pool)
      | some p =>
        exact testWaiting_sound
          (h.rotated (successfulTake_frame n x p s) (successfulTake_sound h.pool (candidate_ready hc)))
  · exact h

/-! ## Commands -/

theorem frameEnd_sound {bytes : List Byte} {command : State → Answer} (hc : ∀ u, RunSound u → RunSound (command u).state)
    (h : RunSound s) : RunSound (frameEnd bytes command s) := by
  unfold frameEnd
  split
  · exact (hc (shiftFrame bytes s) (h.congr rfl rfl rfl rfl)).congr rfl rfl rfl rfl
  · exact h

theorem steeringFrameEnd_sound {bytes : List Byte} {command : State → Answer}
    (hc : ∀ u, RunSound u → RunSound (command u).state) (h : RunSound s) :
    RunSound (steeringFrameEnd bytes command s) := by
  have ha : RunSound (answerFrame bytes command s) :=
    (hc (shiftFrame bytes s) (h.congr rfl rfl rfl rfl)).congr rfl rfl rfl rfl
  unfold steeringFrameEnd
  split
  · split
    · exact testWaiting_sound ha
    · exact ha
  · exact h

theorem cmdSetStream_keeps {a : SetStreamArgs} (h : RunSound s) : RunSound (cmdSetStream a s).state := by
  refine h.rotated ?_ (cmdSetStream_sound h.pool)
  rcases cmdSetStream_state a s with e | ⟨g, _, _, _, e⟩ <;> rw [e]
  · exact RotationFrame.refl s
  · exact modStream_frame s _ _

theorem cmdClearStream_keeps {b : Byte} (h : RunSound s) : RunSound (cmdClearStream b s).state := by
  refine h.rotated ?_ (cmdClearStream_sound h.pool)
  rcases cmdClearStream_state b s with e | ⟨n, _, e⟩ <;> rw [e]
  · exact RotationFrame.refl s
  · exact modStream_frame s _ _

theorem cmdSetConsumer_keeps {a : SetConsumerArgs} (h : RunSound s) : RunSound (cmdSetConsumer a s).state := by
  refine h.rotated ?_ (cmdSetConsumer_sound h.pool)
  rcases cmdSetConsumer_state a s with e | ⟨n, x, _, e | ⟨_, e⟩⟩ <;> rw [e]
  · exact RotationFrame.refl s
  · exact modSlot_frame s _ _ _
  · exact modSlot_frame s _ _ _

theorem cmdAssignPage_keeps {a : AssignPageArgs} (h : RunSound s) : RunSound (cmdAssignPage a s).state := by
  refine h.rotated ?_ (cmdAssignPage_sound h.pool)
  rcases cmdAssignPage_state a s with e | ⟨p, n, _, _, _, _, _, e⟩ <;> rw [e]
  · exact RotationFrame.refl s
  · exact (modPage_frame s _ _).trans (modStream_frame _ _ _)

theorem cmdUnassignPage_keeps {b : Byte} (h : RunSound s) : RunSound (cmdUnassignPage b s).state := by
  refine h.rotated ?_ (cmdUnassignPage_sound h.pool)
  rcases cmdUnassignPage_state b s with e | ⟨p, n, _, _, _, e⟩ <;> rw [e]
  · exact RotationFrame.refl s
  · exact (modPage_frame s _ _).trans (modStream_frame _ _ _)

theorem cmdStartStream_keeps {b : Byte} (h : RunSound s) : RunSound (cmdStartStream b s).state := by
  refine h.rotated ?_ (cmdStartStream_sound h.pool)
  rcases cmdStartStream_state b s with e | ⟨n, p, rest, _, _, _, _, e⟩ <;> rw [e]
  · exact RotationFrame.refl s
  · constructor <;> rfl

theorem stopRunning_frame (n : StreamId) (s : State) : RotationFrame s (stopRunning n s) := by
  refine RotationFrame.trans ?_ (endStop_frame n _)
  constructor <;> rfl

theorem cmdStopStream_keeps {b : Byte} (h : RunSound s) : RunSound (cmdStopStream b s).state := by
  refine h.rotated ?_ (cmdStopStream_sound h.pool)
  unfold cmdStopStream
  split
  · exact RotationFrame.refl s
  · split
    case h_4 => exact stopRunning_frame _ s
    all_goals exact RotationFrame.refl s

theorem cmdFreeze_keeps {b t o : Byte} (h : RunSound s) : RunSound (cmdFreeze b t o s).state := by
  refine h.rotated ?_ (cmdFreeze_sound h.pool)
  unfold cmdFreeze
  split
  · next n target v _ _ _ =>
    split
    · exact RotationFrame.refl s
    · cases target with
      | producer => exact modStream_frame s n fun st => { st with freeze := v }
      | slot x => exact modSlot_frame s n x fun sl => { sl with freeze := v }
  · exact RotationFrame.refl s

/-- New weights and credits leave the law of the table. -/
theorem cmdSetArbiter_keeps {w0 w1 w2 w3 : Byte} (h : RunSound s) : RunSound (cmdSetArbiter w0 w1 w2 w3 s).state := by
  unfold cmdSetArbiter
  split
  · refine h.moved (h.table.congr rfl fun p => ?_) (inFlightOn_entries rfl) rfl rfl
    simp [Answer.done, State.port, Port.weighted]
  · exact h

theorem clearGroup_keeps {g : CounterGroup} (h : RunSound s) : RunSound (clearGroup g s) := by
  have hpool := clearGroup_sound (g := g) h.pool
  cases g with
  | stream n => exact h.rotated (by constructor <;> rfl) hpool
  | slot n x => exact h.rotated (by constructor <;> rfl) hpool
  | port p => exact h.moved (h.table.modPort fun _ => ⟨rfl, rfl, rfl⟩) (inFlightOn_entries rfl) rfl rfl
  | device => exact h.congr rfl rfl rfl rfl

theorem cmdReadCounters_keeps {g n x c : Byte} (h : RunSound s) : RunSound (cmdReadCounters g n x c s).state := by
  unfold cmdReadCounters
  split
  · next g c _ _ =>
    cases c
    · exact h
    · exact clearGroup_keeps h
  · exact h

theorem resetTables_keeps (h : RunSound s) : RunSound (resetTables s) :=
  ⟨resetTables_table h.table, resetTables_sound h.pool (resetTables_inFlightOn s)⟩

theorem setQuiescing_sound (h : RunSound s) : RunSound (setQuiescing s) := by
  unfold setQuiescing
  split
  · exact h.congr rfl rfl rfl rfl
  · exact RunSound.raise (h.congr (t := { s with datapath := .normal }) rfl rfl rfl rfl) _

theorem cmdDatapathReset_keeps {b : Byte} (h : RunSound s) : RunSound (cmdDatapathReset b s).state := by
  unfold cmdDatapathReset
  split
  · exact setQuiescing_sound (present_sound (present_sound (present_sound (present_sound (resetTables_keeps h)))))
  · exact h

/-! ## Every event -/

theorem reset_sound : RunSound State.reset := by
  refine ⟨reset_table, fun n p => ?_, fun p => ?_⟩
  · rw [reset_stream, reset_page]
    exact ⟨fun k => (by cases k), fun k => (by cases k), fun k => (by cases k), fun x k => by cases x <;> cases k⟩
  · obtain ⟨hw, hr⟩ := reset_counts p
    rw [reset_page] at *
    exact ⟨hw, hr, fun _ => rfl, fun _ => ⟨rfl, rfl⟩, fun _ => rfl⟩

theorem exec_sound {i : Instr} {t : State} (h : RunSound s) (e : exec i s = .next t) : RunSound t := by
  have whenHigh : ∀ u : State, RunSound u → RunSound (if s.resetn then u else s) := fun u hu => by
    split
    · exact hu
    · exact h
  cases i <;> cases e
  case boundaryEvent n => exact whenHigh _ (boundary_sound h)
  case takeEvent n x => exact whenHigh _ (take_sound h)
  case acceptance p r urg =>
    split
    · exact testWaiting_sound (acceptHead_sound (h.congr rfl rfl rfl rfl))
    · exact setWaiting_sound h
  case indication urg =>
    refine whenHigh _ (testWaiting_sound (runGrants_sound ?_))
    exact h.congr rfl rfl rfl rfl
  case downstreamCompletion c => exact whenHigh _ (complete_sound h)
  case delivery p => exact whenHigh _ (deliver_sound h)
  case nop f => exact frameEnd_sound (fun _ => id) h
  case setStream a f => exact steeringFrameEnd_sound (fun _ => cmdSetStream_keeps) h
  case clearStream b f => exact steeringFrameEnd_sound (fun _ => cmdClearStream_keeps) h
  case setConsumer a f => exact steeringFrameEnd_sound (fun _ => cmdSetConsumer_keeps) h
  case assignPage a f => exact steeringFrameEnd_sound (fun _ => cmdAssignPage_keeps) h
  case unassignPage b f => exact steeringFrameEnd_sound (fun _ => cmdUnassignPage_keeps) h
  case startStream b f => exact steeringFrameEnd_sound (fun _ => cmdStartStream_keeps) h
  case stopStream b f => exact steeringFrameEnd_sound (fun _ => cmdStopStream_keeps) h
  case freeze b t o f => exact frameEnd_sound (fun _ => cmdFreeze_keeps) h
  case setArbiter w0 w1 w2 w3 f => exact frameEnd_sound (fun _ => cmdSetArbiter_keeps) h
  case setEvents w m f =>
    refine frameEnd_sound (fun u hu => ?_) h
    unfold cmdSetEvents
    split
    · exact hu.congr rfl rfl rfl rfl
    · exact hu
  case popEvents k f =>
    refine frameEnd_sound (fun u hu => ?_) h
    unfold cmdPopEvents
    split
    · exact hu.congr rfl rfl rfl rfl
    · exact hu
  case readStream b f =>
    refine frameEnd_sound (fun u hu => ?_) h
    unfold cmdReadStream
    split <;> exact hu
  case readPage b f =>
    refine frameEnd_sound (fun u hu => ?_) h
    unfold cmdReadPage
    split <;> exact hu
  case readCounters g n x c f => exact frameEnd_sound (fun _ => cmdReadCounters_keeps) h
  case datapathReset b f => exact steeringFrameEnd_sound (fun _ => cmdDatapathReset_keeps) h
  case unknownCommand c f => exact frameEnd_sound (fun _ => id) h
  case discardedFrame bits =>
    split
    · exact h.congr rfl rfl rfl rfl
    · exact h
  case pinReset => exact reset_sound.congr rfl rfl rfl rfl
  case resetnRise low =>
    split
    · exact h
    · exact testWaiting_sound (h.congr rfl rfl rfl rfl)
  case shortFrame c f => exact frameEnd_sound (fun _ => id) h
  case chipSelectRiseAfterPinReset =>
    split
    · exact h.congr rfl rfl rfl rfl
    · exact h

theorem reachable_sound (h : Reachable s) : RunSound s := by
  induction h with
  | reset => exact reset_sound
  | arrive s i _ _ ih => exact ih.congr rfl rfl rfl rfl
  | step s t _ e ih =>
    rcases step_cases e with rfl | ⟨i, rest, e⟩
    · exact ih
    · exact exec_sound (s := { s with pending := rest }) (ih.congr rfl rfl rfl rfl) e

end Events

/-! ## Held pages (R29, R33) -/

/-- Where a count is 0 no entry of its access is in flight on the page. -/
theorem not_inFlight_of_count {s : State} {k : Access} {p : PageId} {e : EntryId} (h : inFlightOn s k p = 0)
    (hk : (s.entry e).kind = k) (ht : (s.entry e).target.map (·.page) = some p) : (s.entry e).inFlight = false := by
  rw [Bool.eq_false_iff]
  intro hin
  have hmem : e ∈ (List.finRange 48).filter fun e => (s.entry e).directed k p :=
    List.mem_filter.2 ⟨List.mem_finRange e, Entry.directed_iff.2 ⟨hk, ht, hin⟩⟩
  have hnil : ((List.finRange 48).filter fun e => (s.entry e).directed k p) = [] := List.eq_nil_of_length_eq_zero h
  rw [hnil] at hmem
  cases hmem

/-- Settles O60: along a run a held page is PUBLISHED, so its write count is 0, and that count is the number of writes in
flight on it. -/
theorem noConsumerReadsAPageBeingWritten : Obligations.NoConsumerReadsAPageBeingWritten := by
  intro s hs n x q hheld
  obtain ⟨_, hpool⟩ := reachable_sound hs
  obtain ⟨_, hpublished, _⟩ := (hpool.streams n q).held x hheld
  have hzero := (hpool.pages q).done (Or.inr hpublished)
  refine ⟨hpublished, hzero, fun m hm => ?_, fun e hk ht => ?_⟩
  · have hfilling := ((hpool.streams m q).fill hm).2
    rw [hpublished] at hfilling
    cases hfilling
  · exact not_inFlight_of_count ((hpool.pages q).write.symm.trans hzero) hk ht

end Sys2Proof.Machine

/-! PROOFS. Boundary events: strobes that are ignored, held or frozen (O25), sunk frames and resumption (O26), and closing
boundaries that close their frame (O27 to O30). -/

namespace Sys2Proof.Machine

/-! ## Updates of one stream record, one after another -/

theorem modStream_modStream (s : State) (n : StreamId) (f g : Stream → Stream) :
    (s.modStream n f).modStream n g = s.modStream n fun st => g (f st) := by
  unfold State.modStream
  simp [State.stream]

theorem modPage_modStream (s : State) (n : StreamId) (p : PageId) (f : Stream → Stream) (g : Page → Page) :
    (s.modPage p g).modStream n f = (s.modStream n f).modPage p g := rfl

/-- Raising reads nothing of the stream records. -/
theorem raise_modStream (s : State) (n : StreamId) (f : Stream → Stream) (r : EventRecord) :
    (s.modStream n f).raise r = (s.raise r).modStream n f := by
  have hk : (s.modStream n f).kindEnabled r.kind = s.kindEnabled r.kind := rfl
  unfold State.raise
  rw [hk]
  split
  · rw [modStream_events]
    split <;> rfl
  · rfl

theorem raised_raise_of {s u : State} (r : EventRecord) (h : SameEvents s u) : Raised r s (u.raise r) := by
  obtain ⟨hevents, hlost, hattn, hwatermark, hmask⟩ := h
  exact (raised_raise u r).congr hevents.symm hlost.symm hattn.symm hwatermark.symm hmask.symm rfl rfl rfl

theorem RaisedOnly.stream {r : EventRecord} {s t : State} (h : RaisedOnly r s t) (n : StreamId) :
    t.stream n = s.stream n := by
  obtain ⟨_, ht⟩ := h
  rw [ht]
  rfl

/-! ## Strobes that close no frame (R41, R42, R45, R65, R66) -/

theorem exec_boundary_ignored {n : StreamId} {s : State} (h : (s.stream n).state ≠ .running) :
    exec (.boundaryEvent n) s = .next s := by
  have hkept : boundary n s = s := if_neg (by simpa using h)
  show Host.Outcome.next (if s.resetn then boundary n s else s) = _
  rw [hkept, ite_self]

theorem exec_take_ignored {n : StreamId} {x : SlotId} {s : State}
    (h : (s.stream n).state ≠ .running ∨ (s.slot n x).enabled = false) : exec (.takeEvent n x) s = .next s := by
  have hkept : take n x s = s := by
    unfold take
    rcases h with h | h <;> simp [h]
  show Host.Outcome.next (if s.resetn then take n x s else s) = _
  rw [hkept, ite_self]

theorem exec_fieldBoundary {n : StreamId} {s : State} (hr : s.resetn = true) (hs : (s.stream n).state = .running)
    (hw : (s.stream n).transform = .weave) (hp : (s.stream n).parity = false) :
    exec (.boundaryEvent n) s = .next (testWaiting (s.modStream n fun st => { st with parity := true })) := by
  show Host.Outcome.next (if s.resetn then boundary n s else s) = _
  unfold boundary takenBoundary
  simp [hr, hs, hw, hp]

theorem exec_take_frozen {n : StreamId} {x : SlotId} {s : State} (hr : s.resetn = true) (hs : (s.stream n).state = .running)
    (he : (s.slot n x).enabled = true) (hf : (s.slot n x).freeze = true) :
    exec (.takeEvent n x) s = .next (s.modSlot n x fun sl => { sl with frozenTakes := sl.frozenTakes + 1 }) := by
  show Host.Outcome.next (if s.resetn then take n x s else s) = _
  unfold take frozenTake
  simp [hr, hs, he, hf]

/-- A closing boundary under producer freeze numbers the frame, counts it and holds it. -/
theorem closingBoundary_held {n : StreamId} {s : State} (hs : (s.stream n).starved = false)
    (hf : (s.stream n).freeze = true) :
    closingBoundary n s =
      s.modStream n fun st =>
        { st with
          parity := false, nextFrame := st.nextFrame + 1, closed := st.closed + 1, heldFrames := st.heldFrames + 1 } := by
  unfold closingBoundary
  dsimp only
  rw [if_neg (by simp [hs]), if_pos hf]
  exact modStream_modStream _ _ _ _

/-- Settles O25, one kind of strobe after another. -/
theorem strobesIgnoredHeldOrFrozen : Obligations.StrobesIgnoredHeldOrFrozen := by
  refine ⟨fun n s => exec_boundary_ignored, fun n x s => exec_take_ignored, fun n s hr hs hw hp => ?_,
    fun n s hc hs hf => ?_, fun n x s hr hs he hf => ?_⟩
  · refine ⟨_, _, exec_fieldBoundary hr hs hw hp, testWaiting_retested _, modStream_stream_same .., fun m hm => ?_, rfl,
      SameEvents.refl s, (modStream_frame s n _).strobe⟩
    exact modStream_stream_other s hm _
  · refine ⟨_, _, exec_closing hc, testWaiting_retested _, ?_⟩
    rw [closingBoundary_held hs hf]
    refine ⟨modStream_stream_same .., fun m hm => ?_, rfl, SameEvents.refl s, (modStream_frame s n _).strobe⟩
    exact modStream_stream_other s hm _
  · refine ⟨_, exec_take_frozen hr hs he hf, modSlot_stream_same .., fun m hm => ?_, rfl, SameEvents.refl s,
      (modSlot_frame s n x _).strobe⟩
    exact modSlot_stream_other s hm x _

/-! ## The search for a fill page (R47, R48) -/

theorem FirstFree.congr {s t : State} {n : StreamId} {p : PageId} (h : FirstFree s n p)
    (hring : (t.stream n).ring = (s.stream n).ring)
    (hfree : ∀ q, (t.page q).stage = .free ↔ (s.page q).stage = .free) : FirstFree t n p := by
  obtain ⟨older, newer, hr, hp, hold⟩ := h
  exact ⟨older, newer, hring.trans hr, (hfree p).2 hp, fun q hq k => hold q hq ((hfree q).1 k)⟩

theorem FirstFree.ne_filling {s : State} {n : StreamId} {o p : PageId} (h : FirstFree s n p)
    (ho : (s.page o).stage = .filling) : o ≠ p := fun e => by
  obtain ⟨_, _, _, hp, _⟩ := h
  rw [← e, ho] at hp
  cases hp

/-- Between s and t nothing has changed of what the search for a fill page of stream n looks at. -/
structure SameSupply (n : StreamId) (s t : State) : Prop where
  ring : (t.stream n).ring = (s.stream n).ring
  ready : (t.stream n).ready = (s.stream n).ready
  policy : (t.stream n).poolPolicy = (s.stream n).poolPolicy
  free : ∀ q, (t.page q).stage = .free ↔ (s.page q).stage = .free
  published : ∀ q, (t.page q).stage = .published ↔ (s.page q).stage = .published
  holdA : ∀ q, (t.page q).holdA = (s.page q).holdA
  holdB : ∀ q, (t.page q).holdB = (s.page q).holdB
  readCount : ∀ q, (t.page q).readCount = (s.page q).readCount

/-- The search looks at nothing of a stream record but its two lists and its pool policy. -/
theorem SameSupply.modStream (s : State) (n : StreamId) {f : Stream → Stream}
    (hring : (f (s.stream n)).ring = (s.stream n).ring) (hready : (f (s.stream n)).ready = (s.stream n).ready)
    (hpolicy : (f (s.stream n)).poolPolicy = (s.stream n).poolPolicy) : SameSupply n s (s.modStream n f) := by
  constructor <;> simp [hring, hready, hpolicy]

theorem NoFillPage.supply {s t : State} {n : StreamId} (h : NoFillPage s n) (k : SameSupply n s t) : NoFillPage t n := by
  simpa only [NoFillPage, k.ring, k.ready, k.policy, k.holdA, k.holdB, k.readCount, ne_eq, k.free] using h

theorem Recyclable.supply {s t : State} {n : StreamId} {p : PageId} (h : Recyclable s n p) (k : SameSupply n s t) :
    Recyclable t n p := by
  simpa only [Recyclable, k.ring, k.ready, k.policy, k.holdA, k.holdB, k.readCount, ne_eq, k.free, k.published] using h

theorem recycleCandidate_of {s : State} {n : StreamId} {p : PageId} (h : Recyclable s n p) :
    recycleCandidate s n = some p := by
  obtain ⟨_, _, hs, ha, hb, hr, older, newer, hready, hold⟩ := h
  have hnone : older.find? (fun q => (s.page q).stage == .published && (s.page q).unheld && (s.page q).readCount == 0)
      = none := by
    rw [List.find?_eq_none]
    intro q hq k
    simp only [Bool.and_eq_true, Page.unheld_iff, beq_iff_eq] at k
    obtain ⟨⟨_, hqa, hqb⟩, hqr⟩ := k
    simpa [hqa, hqb, hqr] using hold q hq
  unfold recycleCandidate
  rw [hready, List.find?_append, hnone]
  simp [hs, Page.unheld, ha, hb, hr]

theorem seekFill_recycles {s : State} {n : StreamId} {p : PageId} (h : Recyclable s n p) :
    seekFill n s = some (p, makeFill n p (dropFrame n p s)) := by
  obtain ⟨hfree, hpolicy, _⟩ := id h
  unfold seekFill
  rw [firstFree_none hfree, hpolicy, recycleCandidate_of h]

theorem makeFill_filled (n : StreamId) (p : PageId) (s : State) : Filled n p s (makeFill n p s) := rfl

theorem dropFrame_eq (n : StreamId) (p : PageId) (s : State) :
    dropFrame n p s =
      (s.modStream n fun st => { st with ready := st.ready.filter (· ≠ p), dropped := st.dropped + 1 }).raise
        { kind := .frameDropped, stream := some n, page := some p, frame := (s.page p).frame } := by
  unfold dropFrame
  simp only [ne_eq, decide_not, bne]
  rfl

theorem dropFrame_dropped (n : StreamId) (p : PageId) (s : State) : Dropped n p s (dropFrame n p s) := by
  rw [dropFrame_eq]
  exact raise_raisedOnly _ _

/-! ## Sunk frames and resumption (R50, R51) -/

/-- The part once the frame of a starved stream is numbered and counted as sunk, before a page is sought. -/
def sunkFrame (n : StreamId) (s : State) : State :=
  s.modStream n fun st =>
    { st with
      parity := false, nextFrame := st.nextFrame + 1, closed := st.closed + 1, sunk := st.sunk + 1,
      starvedFrames := min (st.starvedFrames + 1) 0xFFFFFFFF }

theorem countSunk_beginClosing (n : StreamId) (s : State) : countSunk n (beginClosing n s) = sunkFrame n s := by
  unfold countSunk beginClosing
  exact modStream_modStream ..

theorem sunkFrame_supply (n : StreamId) (s : State) : SameSupply n s (sunkFrame n s) :=
  SameSupply.modStream s n rfl rfl rfl

theorem closingBoundary_sinks {n : StreamId} {s : State} (hstarved : (s.stream n).starved = true)
    (h : NoFillPage s n) : closingBoundary n s = sunkFrame n s := by
  unfold closingBoundary sinkFrame
  dsimp only
  rw [if_pos hstarved, countSunk_beginClosing, seekFill_none (h.supply (sunkFrame_supply n s))]

theorem closingBoundary_resumes {n : StreamId} {s t : State} {p : PageId} (hstarved : (s.stream n).starved = true)
    (h : seekFill n (sunkFrame n s) = some (p, t)) : closingBoundary n s = resume n p t := by
  unfold closingBoundary sinkFrame
  dsimp only
  rw [if_pos hstarved, countSunk_beginClosing, h]

/-- Dropping a frame and filling its page read and write nothing of what the resumption clears. -/
theorem makeFill_dropFrame_unstarved (n : StreamId) (p : PageId) (s : State) :
    (makeFill n p (dropFrame n p s)).modStream n (fun st => { st with starved := false, starvedFrames := 0 }) =
      makeFill n p (dropFrame n p (s.modStream n fun st => { st with starved := false, starvedFrames := 0 })) := by
  unfold makeFill dropFrame
  simp only [raise_modStream, modPage_modStream, modStream_modStream, modStream_page]

theorem resume_filled (n : StreamId) (p : PageId) (s : State) :
    resume n p (makeFill n p (sunkFrame n s)) =
      ((s.modStream n fun st =>
          { st with
            parity := false, nextFrame := st.nextFrame + 1, closed := st.closed + 1, sunk := st.sunk + 1,
            starved := false, starvedFrames := 0, fillPage := some p }).modPage p fun pg =>
          { pg with stage := .filling, damaged := false, frame := none }).raise
        { kind := .producerResumed, stream := some n, page := some p,
          count := some (BitVec.ofNat 32 (min ((s.stream n).starvedFrames + 1) 0xFFFFFFFF)) } := by
  unfold resume makeFill sunkFrame
  simp only [modPage_modStream, modStream_modStream, modPage_stream, modStream_stream_same]

theorem resume_recycled (n : StreamId) (p : PageId) (s : State) :
    resume n p (makeFill n p (dropFrame n p (sunkFrame n s))) =
      (makeFill n p (dropFrame n p (s.modStream n fun st =>
          { st with
            parity := false, nextFrame := st.nextFrame + 1, closed := st.closed + 1, sunk := st.sunk + 1,
            starved := false, starvedFrames := 0 }))).raise
        { kind := .producerResumed, stream := some n, page := some p,
          count := some (BitVec.ofNat 32 (min ((s.stream n).starvedFrames + 1) 0xFFFFFFFF)) } := by
  unfold resume
  rw [makeFill_dropFrame_unstarved, sunkFrame, modStream_modStream]
  simp [makeFill, dropFrame]

/-- Settles O26: the sunk frame leaves the supply of pages as it was, so the search finds what the statement names; and dropping
a frame and filling its page commute with what the resumption clears. -/
theorem sunkFrameAndResumption : Obligations.SunkFrameAndResumption := by
  intro n s hc hstarved
  have hsupply := sunkFrame_supply n s
  have hframe := (closingBoundary_frame n s).strobe
  refine ⟨fun hnone => ?_, fun p hfree => ?_, fun p hrec => ?_⟩
  · refine ⟨_, _, exec_closing hc, testWaiting_retested _, ?_⟩
    rw [closingBoundary_sinks hstarved hnone] at hframe ⊢
    refine ⟨modStream_stream_same .., fun m hm => ?_, rfl, SameEvents.refl s, hframe⟩
    exact modStream_stream_other s hm _
  · have hseek := seekFill_free (hfree.congr hsupply.ring hsupply.free)
    refine ⟨_, _, exec_closing hc, testWaiting_retested _, ?_⟩
    rw [closingBoundary_resumes hstarved hseek, resume_filled] at hframe ⊢
    refine ⟨by simp, by simp, raised_raise_of _ (SameEvents.refl s), fun m hm => by simp [hm], fun q hq => ?_, hframe⟩
    have hne : q ≠ p := by simpa using hq
    simp [hne]
  · have hseek := seekFill_recycles (hrec.supply hsupply)
    refine ⟨_, _, _, _, exec_closing hc, testWaiting_retested _, dropFrame_dropped n p _, makeFill_filled n p _, ?_⟩
    rw [closingBoundary_resumes hstarved hseek, resume_recycled]
    exact raise_raisedOnly _ _

/-! ## A frame that is closed (R43, R46) -/

/-- The part once a closing boundary has numbered its frame and taken it off the stream, before any publication. -/
def numberedFill (n : StreamId) (o : PageId) (s : State) : State :=
  (s.modStream n fun st =>
      { st with parity := false, nextFrame := st.nextFrame + 1, closed := st.closed + 1, fillPage := none }).modPage o
    fun pg =>
      { pg with frame := some (s.stream n).nextFrame, stage := if pg.writeCount = 0 then .sealed else .closing }

/-- What a closing boundary that closes a frame has done before it seeks a new fill page. -/
def closedFrame (n : StreamId) (o : PageId) (s : State) : State :=
  if (s.page o).writeCount = 0 then runChain n (numberedFill n o s) else numberedFill n o s

section Closed

variable {n : StreamId} {o : PageId} {s : State} (hstarved : (s.stream n).starved = false)
  (hfreeze : (s.stream n).freeze = false) (hfill : (s.stream n).fillPage = some o) (hstage : (s.page o).stage = .filling)

include hfill hstage in
theorem closeFill_closedFrame : closeFill n (s.stream n).nextFrame (beginClosing n s) = closedFrame n o s := by
  have hclosing : ((beginClosing n s).modPage o fun pg =>
          { pg with stage := .closing, frame := some (s.stream n).nextFrame }).modStream n
        (fun st => { st with fillPage := none })
      = (s.modStream n fun st =>
          { st with parity := false, nextFrame := st.nextFrame + 1, closed := st.closed + 1, fillPage := none }).modPage o
        fun pg => { pg with stage := .closing, frame := some (s.stream n).nextFrame } := by
    rw [modPage_modStream, beginClosing, modStream_modStream]
  have hfill' : ((beginClosing n s).stream n).fillPage = some o := by simpa [beginClosing] using hfill
  unfold closeFill
  rw [hfill']
  dsimp only
  rw [if_pos (by simpa [beginClosing] using hstage), hclosing]
  unfold closedFrame numberedFill
  by_cases hw : (s.page o).writeCount = 0
  · rw [if_pos (by simpa using hw), if_pos hw, sealPage, modPage_modPage]
    exact congrArg (runChain n) (modPage_congr (by simp [hw]))
  · rw [if_neg (by simpa using hw), if_neg hw]
    exact modPage_congr (by simp [hw])

include hstarved hfreeze hfill hstage

theorem closingBoundary_fills {p : PageId} {t : State} (h : seekFill n (closedFrame n o s) = some (p, t)) :
    closingBoundary n s = t := by
  unfold closingBoundary closeFrame
  dsimp only
  rw [if_neg (by simp [hstarved]), if_neg (by simp [hfreeze]), closeFill_closedFrame hfill hstage, h]

theorem closingBoundary_starves (h : seekFill n (closedFrame n o s) = none) :
    closingBoundary n s = starve n (closedFrame n o s) := by
  unfold closingBoundary closeFrame
  dsimp only
  rw [if_neg (by simp [hstarved]), if_neg (by simp [hfreeze]), closeFill_closedFrame hfill hstage, h]

end Closed

theorem closedFrame_inFlight {n : StreamId} {o : PageId} {s : State} (hw : 0 < (s.page o).writeCount) :
    closedFrame n o s = numberedFill n o s := if_neg hw.ne'

/-- The fill page was neither FREE nor PUBLISHED before, and it is neither of them now. -/
theorem numberedFill_supply {n : StreamId} {o : PageId} {s : State} (hstage : (s.page o).stage = .filling) :
    SameSupply n s (numberedFill n o s) := by
  have hpage (q : PageId) : (numberedFill n o s).page q =
      if q = o then
        { s.page o with
          frame := some (s.stream n).nextFrame, stage := if (s.page o).writeCount = 0 then .sealed else .closing }
      else s.page q := modPage_page ..
  constructor
  case ring | ready | policy => simp [numberedFill]
  all_goals
    intro q
    rw [hpage]
    by_cases hq : q = o
    · subst hq
      by_cases hw : (s.page q).writeCount = 0 <;> simp [hw, hstage]
    · rw [if_neg hq]

/-- Settles O27: a page with a write in flight closes without a publication, and then the first FREE page is filled. -/
theorem closeWithWritesInFlight : Obligations.CloseWithWritesInFlight := by
  intro n o p s hc hstarved hfreeze hfill hstage hw hfree
  have hsupply := numberedFill_supply (n := n) hstage
  have hseek := seekFill_free (hfree.congr hsupply.ring hsupply.free)
  have hframe := (closingBoundary_frame n s).strobe
  have hop := hfree.ne_filling hstage
  refine ⟨_, _, exec_closing hc, testWaiting_retested _, ?_⟩
  rw [← closedFrame_inFlight hw] at hseek
  rw [closingBoundary_fills hstarved hfreeze hfill hstage hseek, closedFrame_inFlight hw] at hframe ⊢
  unfold makeFill numberedFill at hframe ⊢
  refine ⟨by simp [hop, hw.ne'], by simp [hop.symm], by simp, fun m hm => by simp [hm], fun q hq => ?_,
    SameEvents.refl s, hframe⟩
  obtain ⟨hqo, hqp⟩ : q ≠ o ∧ q ≠ p := by simpa using hq
  simp [hqo, hqp]

/-! ## The publication chain of a closing boundary (R53 to R57)

The frame that closes may lie 2^31 - 1 boundaries ahead of the oldest pending one: the two can still be compared, but no frame
number is newer than both. So the oldest pending page is set apart, and `ChainReady` holds behind the first turn. -/

/-- As `ChainReady`, with nothing said of the age of the oldest pending page p. -/
structure ChainStart (n : StreamId) (b : Word32) (p : PageId) (s : State) : Prop where
  oldest : OldestPending s n p
  owned : ∀ q, Pending s n q → (s.page q).owner = some n
  ready : ∀ q ∈ (s.stream n).ready, (s.page q).stage = .published ∧ (s.page q).owner = some n
  frames : ∀ q, Pending s n q → q ≠ p → ∃ f, (s.page q).frame = some f ∧ NewerFrame b f
  distinct : ∀ q r, Pending s n q → Pending s n r → q ≠ r → (s.page q).frame ≠ (s.page r).frame

section ChainStart

variable {n : StreamId} {b : Word32} {p : PageId} {s : State} (h : ChainStart n b p s)
include h

/-- Behind a turn that has dealt with the oldest pending page and left the others as they were. -/
theorem ChainStart.turn {v : State} (hpend : ∀ q, Pending v n q → Pending s n q ∧ q ≠ p ∧ v.page q = s.page q)
    (hready : ∀ q ∈ (v.stream n).ready, (v.page q).stage = .published ∧ (v.page q).owner = some n) :
    ChainReady n b v := by
  refine ⟨fun q hq => ?_, hready, fun q hq => ?_, fun q r hq hr hne => ?_⟩
  · obtain ⟨hs, _, hpage⟩ := hpend q hq
    rw [hpage]
    exact h.owned q hs
  · obtain ⟨hs, hqp, hpage⟩ := hpend q hq
    rw [hpage]
    exact h.frames q hs hqp
  · obtain ⟨hsq, _, hpageq⟩ := hpend q hq
    obtain ⟨hsr, _, hpager⟩ := hpend r hr
    rw [hpageq, hpager]
    exact h.distinct q r hsq hsr hne

theorem ChainStart.not_ready : p ∉ (s.stream n).ready := fun hm => by
  obtain ⟨⟨_, hs⟩, _⟩ := h.oldest
  obtain ⟨hp, _⟩ := h.ready p hm
  rw [hp] at hs
  rcases hs with k | k <;> cases k

theorem ChainStart.published : Published n p s (publish n p s) := by
  refine ⟨_, rfl, retireAll_retired fun q hq => ?_⟩
  rw [modStream_page, modPage_page]
  split
  · exact h.owned p h.oldest.1
  · next hne =>
    rw [modStream_stream_same, List.mem_append, List.mem_singleton] at hq
    obtain ⟨_, ho⟩ := h.ready q (hq.resolve_right hne)
    exact ho

theorem ChainStart.discarded : Discarded n p s (discard n p s) := by
  refine ⟨_, raise_raisedOnly _ _, ?_⟩
  unfold discard
  rw [release_notReady (n := n) (by simpa using h.owned p h.oldest.1) (by simpa using h.not_ready)]
  exact modPage_congr (Page.released_eq _)

/-- The model's chain is the one of R55. -/
theorem ChainStart.chain_runChain : Chain n s (runChain n s) := by
  have hold := h.oldest
  obtain ⟨hpend, _⟩ := id hold
  obtain ⟨_, hclosing | hsealed⟩ := id hpend
  · unfold runChain
    rw [chain_wait hold hclosing]
    exact Chain.wait s p hold hclosing
  · obtain ⟨fuel, hfuel⟩ := Nat.exists_eq_succ_of_ne_zero (List.length_pos_of_mem (mem_pendingPages.2 hpend)).ne'
    unfold runChain
    rw [hfuel]
    cases hd : (s.page p).damaged with
    | false =>
      have w := h.published
      have hlt := pendingPages_length_lt w.ring hpend fun q hq => w.pending hq
      rw [chain_publish hold hsealed hd]
      refine Chain.publish s _ _ p hold hsealed hd w (chain_chain fuel (h.turn (fun q hq => w.pending hq) ?_) (by omega))
      exact w.ready (h.owned p hpend) h.ready
    | true =>
      have w := h.discarded
      obtain ⟨hring, hready, hpages, _⟩ := w.rest
      have hlt := pendingPages_length_lt hring hpend fun q hq => w.pending hq
      rw [chain_discard hold hsealed hd]
      refine Chain.discard s _ _ p hold hsealed hd w
        (chain_chain fuel (h.turn (fun q hq => w.pending hq) fun q hq => ?_) (by omega))
      rw [hready] at hq
      rw [hpages q fun e => h.not_ready (e ▸ hq)]
      exact h.ready q hq

end ChainStart

/-- The chain numbers no frame. -/
theorem Chain.nextFrame {n : StreamId} {s u : State} (h : Chain n s u) :
    (u.stream n).nextFrame = (s.stream n).nextFrame := by
  induction h with
  | nothing => rfl
  | wait => rfl
  | publish s v u p _ _ _ w _ ih =>
    obtain ⟨x, rfl, _, _, hstream, _⟩ := w
    rw [ih, hstream, modStream_stream_same]
    rfl
  | discard s v u p _ _ _ w _ ih =>
    obtain ⟨x, hx, rfl⟩ := w
    rw [ih, modPage_stream, hx.stream, modStream_stream_same]

/-- The newer of two frames closed before b is fewer than 2^31 - 1 boundaries back, so frame b + 1 is newer than it, too. -/
theorem NewerFrame.succ_of_between {b f g : Word32} (hg : NewerFrame b g) (hgf : NewerFrame g f) (hf : NewerFrame b f) :
    NewerFrame (b + 1) g := by
  unfold NewerFrame at *
  bv_omega

theorem NewerFrame.ne {a b : Word32} (h : NewerFrame a b) : a ≠ b := by
  unfold NewerFrame at h
  bv_omega

/-- In a safe state a chain would find the pages that are pending already in order. -/
theorem PoolLaw.chainReady {s : State} (hpool : PoolLaw s) (hrecent : FramesRecent s) (horder : FramesInOrder s)
    (n : StreamId) : ChainReady n (s.stream n).nextFrame s := by
  obtain ⟨hring, _, _, hready, _, hstage, _⟩ := hpool
  obtain ⟨_, _, hdistinct⟩ := horder n
  refine ⟨fun p ⟨hmem, _⟩ => hring.owner hmem, fun q hq => ?_, fun p ⟨hmem, hst⟩ => ?_, hdistinct⟩
  · obtain ⟨hmem, hpub⟩ := ((hready n).2 q).1 hq
    exact ⟨hpub, hring.owner hmem⟩
  · obtain ⟨hframe, _⟩ := hstage p
    obtain ⟨f, hf⟩ := Option.ne_none_iff_exists'.1 (hframe.2 (hst.imp_right Or.inl))
    exact ⟨f, hf, hrecent n p hmem f hf⟩

section Numbered

variable {n : StreamId} {o : PageId} {s : State}

theorem numberedFill_page_other {q : PageId} (hq : q ≠ o) : (numberedFill n o s).page q = s.page q := by
  simp [numberedFill, hq]

theorem numberedFill_page_frame : ((numberedFill n o s).page o).frame = some (s.stream n).nextFrame := by
  simp [numberedFill]

theorem numberedFill_page_owner (q : PageId) : ((numberedFill n o s).page q).owner = (s.page q).owner := by
  by_cases hq : q = o
  · subst hq
    simp [numberedFill]
  · rw [numberedFill_page_other hq]

theorem numberedFill_ring : ((numberedFill n o s).stream n).ring = (s.stream n).ring := by simp [numberedFill]

theorem numberedFill_pending_other {q : PageId} (hq : q ≠ o) : Pending (numberedFill n o s) n q ↔ Pending s n q := by
  unfold Pending
  rw [numberedFill_ring, numberedFill_page_other hq]

theorem numberedFill_pending_same (ho : o ∈ (s.stream n).ring) : Pending (numberedFill n o s) n o := by
  refine ⟨by rwa [numberedFill_ring], ?_⟩
  by_cases hw : (s.page o).writeCount = 0 <;> simp [numberedFill, hw]

/-- The newest frame has just closed; of the others all but the oldest were closed fewer than 2^31 - 1 boundaries ago. -/
theorem numberedFill_oldest (hold : ChainReady n (s.stream n).nextFrame s) (ho : o ∈ (s.stream n).ring)
    (hstage : (s.page o).stage = .filling) :
    ∃ p, OldestPending (numberedFill n o s) n p
      ∧ ∀ q, Pending (numberedFill n o s) n q → q ≠ p →
          ∃ f, ((numberedFill n o s).page q).frame = some f ∧ NewerFrame ((s.stream n).nextFrame + 1) f := by
  have hnot : ¬ Pending s n o := by simp [Pending, hstage]
  have hnext : NewerFrame ((s.stream n).nextFrame + 1) (s.stream n).nextFrame := by
    unfold NewerFrame
    bv_omega
  by_cases hsome : ∃ p, Pending s n p
  · obtain ⟨_, hany⟩ := hsome
    obtain ⟨p, hp, hnewer⟩ := hold.exists_oldest hany
    have hpo : p ≠ o := fun e => hnot (e ▸ hp)
    obtain ⟨f, hf, hfb⟩ := hold.frames p hp
    refine ⟨p, ⟨(numberedFill_pending_other hpo).2 hp, fun q hq hqp => ?_⟩, fun q hq hqp => ?_⟩
    all_goals by_cases hqo : q = o
    · rw [hqo]
      exact ⟨_, f, numberedFill_page_frame, by rwa [numberedFill_page_other hpo], hfb⟩
    · unfold NewerPage
      rw [numberedFill_page_other hqo, numberedFill_page_other hpo]
      exact hnewer q ((numberedFill_pending_other hqo).1 hq) hqp
    · rw [hqo]
      exact ⟨_, numberedFill_page_frame, hnext⟩
    · have hq' := (numberedFill_pending_other hqo).1 hq
      obtain ⟨g, f', hg, hf', hgf⟩ := hnewer q hq' hqp
      obtain ⟨g', hg', hgb⟩ := hold.frames q hq'
      cases hf.symm.trans hf'
      cases hg.symm.trans hg'
      exact ⟨g, by rwa [numberedFill_page_other hqo], hgb.succ_of_between hgf hfb⟩
  · have honly : ∀ q, Pending (numberedFill n o s) n q → q = o := fun q hq => by
      by_contra hqo
      exact hsome ⟨q, (numberedFill_pending_other hqo).1 hq⟩
    exact ⟨o, ⟨numberedFill_pending_same ho, fun q hq hne => absurd (honly q hq) hne⟩,
      fun q hq hne => absurd (honly q hq) hne⟩

theorem numberedFill_distinct (hold : ChainReady n (s.stream n).nextFrame s) {q r : PageId}
    (hq : Pending (numberedFill n o s) n q) (hr : Pending (numberedFill n o s) n r) (hne : q ≠ r) :
    ((numberedFill n o s).page q).frame ≠ ((numberedFill n o s).page r).frame := by
  have hclosed : ∀ p, p ≠ o → Pending (numberedFill n o s) n p →
      ((numberedFill n o s).page p).frame ≠ some (s.stream n).nextFrame := fun p hpo hp => by
    obtain ⟨f, hf, hfb⟩ := hold.frames p ((numberedFill_pending_other hpo).1 hp)
    rw [numberedFill_page_other hpo, hf]
    exact fun e => hfb.ne (Option.some.inj e).symm
  by_cases hqo : q = o
  · rw [hqo, numberedFill_page_frame]
    exact (hclosed r (fun e => hne (hqo.trans e.symm)) hr).symm
  · by_cases hro : r = o
    · rw [hro, numberedFill_page_frame]
      exact hclosed q hqo hq
    · rw [numberedFill_page_other hqo, numberedFill_page_other hro]
      exact hold.distinct q r ((numberedFill_pending_other hqo).1 hq) ((numberedFill_pending_other hro).1 hr) hne

end Numbered

/-- In a safe state a boundary that closes its frame has done what R43 and R46 say before it seeks a new fill page. -/
theorem frameClosed_of_safe {n : StreamId} {o : PageId} {s : State} (hsafe : Safe s) (hrecent : FramesRecent s)
    (horder : FramesInOrder s) (hfill : (s.stream n).fillPage = some o) :
    (s.page o).stage = .filling ∧ FrameClosed n o s (closedFrame n o s) := by
  obtain ⟨_, _, _, _, _, hpool, _⟩ := hsafe
  obtain ⟨hring, _, hfilling, _⟩ := id hpool
  obtain ⟨_, hiff, hmem⟩ := hfilling n
  have ho : o ∈ (s.stream n).ring := hmem o hfill
  have hstage : (s.page o).stage = .filling := (hiff o ho).2 hfill
  have hold := hpool.chainReady hrecent horder n
  obtain ⟨p, holdest, hframes⟩ := numberedFill_oldest hold ho hstage
  have hstart : ChainStart n ((s.stream n).nextFrame + 1) p (numberedFill n o s) := by
    refine ⟨holdest, fun q ⟨hq, _⟩ => ?_, fun q hq => ?_, hframes, fun q r => numberedFill_distinct hold⟩
    · rw [numberedFill_page_owner]
      rw [numberedFill_ring] at hq
      exact hring.owner hq
    · have hsupply := numberedFill_supply (n := n) hstage
      rw [hsupply.ready] at hq
      rw [hsupply.published, numberedFill_page_owner]
      exact hold.ready q hq
  exact ⟨hstage, numberedFill n o s, rfl, fun hw => if_neg hw, fun hw => by
    rw [closedFrame, if_pos hw]
    exact hstart.chain_runChain⟩

/-! ## A drained close (R53 to R57) -/

/-- Settles O28: where the drained page is the only one pending the chain has one turn, and in a safe state it is the chain of
R55; behind either the first FREE page is filled. -/
theorem closeDrainedPublishes : Obligations.CloseDrainedPublishes := by
  constructor
  · intro n o p s hc hstarved hfreeze hfill hstage hw hd ho honly hready hfree
    have hsupply := numberedFill_supply (n := n) hstage
    have hclosed : closedFrame n o s = ((numberedFill n o s).modPage o fun pg => { pg with stage := .published }).modStream n
        fun st => { st with ready := [o], published := st.published + 1 } := by
      rw [closedFrame, if_pos hw]
      refine runChain_publishes (by rwa [numberedFill_ring]) (by simp [numberedFill, hw]) (fun q hq hne => ?_)
        (hsupply.ready.trans hready) (by simpa [numberedFill] using hd)
      rw [numberedFill_page_other hne]
      exact honly q (by rwa [numberedFill_ring] at hq)
    have hop := hfree.ne_filling hstage
    have hseek := seekFill_free (s := closedFrame n o s) (n := n) (p := p) <| by
      rw [hclosed]
      refine hfree.congr (by simp [numberedFill]) fun q => ?_
      by_cases hqo : q = o
      · simp [hqo, hstage]
      · simp [hqo, numberedFill]
    have hframe := (closingBoundary_frame n s).strobe
    refine ⟨_, _, exec_closing hc, testWaiting_retested _, ?_⟩
    rw [closingBoundary_fills hstarved hfreeze hfill hstage hseek, hclosed] at hframe ⊢
    unfold makeFill numberedFill at hframe ⊢
    refine ⟨by simp [hop], by simp [hop.symm], by simp, fun m hm => by simp [hm], fun q hq => ?_,
      SameEvents.refl s, hframe⟩
    obtain ⟨hqo, hqp⟩ : q ≠ o ∧ q ≠ p := by simpa using hq
    simp [hqo, hqp]
  · intro n o s hsafe hrecent horder hc hstarved hfreeze hfill
    obtain ⟨hstage, hclosed⟩ := frameClosed_of_safe hsafe hrecent horder hfill
    refine ⟨_, hclosed, fun p hfree => ⟨_, _, exec_closing hc, testWaiting_retested _, ?_⟩⟩
    rw [closingBoundary_fills hstarved hfreeze hfill hstage (seekFill_free hfree)]
    exact makeFill_filled n p _

/-! ## A close that finds no FREE page (R48, R49) -/

theorem FrameClosed.nextFrame {n : StreamId} {o : PageId} {s w : State} (h : FrameClosed n o s w) :
    (w.stream n).nextFrame = (s.stream n).nextFrame + 1 := by
  obtain ⟨v, rfl, hbusy, hdrained⟩ := h
  by_cases hw : (s.page o).writeCount = 0
  · rw [(hdrained hw).nextFrame, modPage_stream, modStream_stream_same]
  · rw [hbusy hw, modPage_stream, modStream_stream_same]

/-- Settles O29: no page is found behind the closed frame, whose number the chain leaves alone. -/
theorem closeStarves : Obligations.CloseStarves := by
  constructor
  · intro n o s hc hstarved hfreeze hfill hstage hw hnone
    have hseek := seekFill_none (hnone.supply (numberedFill_supply hstage))
    rw [← closedFrame_inFlight hw] at hseek
    have hframe := (closingBoundary_frame n s).strobe
    refine ⟨_, _, exec_closing hc, testWaiting_retested _, ?_⟩
    rw [closingBoundary_starves hstarved hfreeze hfill hstage hseek, closedFrame_inFlight hw] at hframe ⊢
    have hnext : ((numberedFill n o s).stream n).nextFrame = (s.stream n).nextFrame + 1 := by simp [numberedFill]
    unfold starve at hframe ⊢
    rw [hnext] at hframe ⊢
    unfold numberedFill at hframe ⊢
    refine ⟨by simp [hw.ne'], by simp, raised_raise_of _ (SameEvents.refl s), fun m hm => by simp [hm],
      fun q hq => ?_, hframe⟩
    have hqo : q ≠ o := by simpa using hq
    simp [hqo]
  · intro n o s hsafe hrecent horder hc hstarved hfreeze hfill
    obtain ⟨hstage, hclosed⟩ := frameClosed_of_safe hsafe hrecent horder hfill
    refine ⟨_, hclosed, fun hnone => ⟨_, _, exec_closing hc, testWaiting_retested _, ?_⟩⟩
    rw [closingBoundary_starves hstarved hfreeze hfill hstage (seekFill_none hnone), starve, hclosed.nextFrame]
    exact raise_raisedOnly _ _

/-- Settles O30: the search behind the closed frame ends at the recycling candidate. -/
theorem closeRecycles : Obligations.CloseRecycles := by
  constructor
  · intro n o p older newer s hc hstarved hfreeze hfill hstage hw hpolicy hfree hready hs ha hb hr hold
    have hrec : Recyclable s n p := ⟨hfree, hpolicy, hs, ha, hb, hr, older, newer, hready, hold⟩
    have hseek := seekFill_recycles (hrec.supply (numberedFill_supply hstage))
    rw [← closedFrame_inFlight hw] at hseek
    have hframe := (closingBoundary_frame n s).strobe
    have hop : o ≠ p := fun e => by
      rw [← e, hstage] at hs
      cases hs
    refine ⟨_, _, exec_closing hc, testWaiting_retested _, ?_⟩
    rw [closingBoundary_fills hstarved hfreeze hfill hstage hseek, closedFrame_inFlight hw] at hframe ⊢
    have hraised := raised_raise_of (s := s) (u := (numberedFill n o s).modStream n fun st =>
        { st with ready := st.ready.filter (· ≠ p), dropped := st.dropped + 1 })
      { kind := .frameDropped, stream := some n, page := some p, frame := (s.page p).frame } (SameEvents.refl s)
    rw [dropFrame_eq, numberedFill_page_other hop.symm] at hframe ⊢
    unfold makeFill at hframe ⊢
    refine ⟨?_, ?_, ?_, hraised.congr rfl rfl rfl rfl rfl rfl rfl rfl, fun m hm => ?_, fun q hq => ?_, hframe⟩
    · simp [numberedFill, hop, hw.ne']
    · simp [numberedFill, hop.symm]
    · simp [numberedFill]
    · simp [numberedFill, hm]
    · obtain ⟨hqo, hqp⟩ : q ≠ o ∧ q ≠ p := by simpa using hq
      simp [numberedFill, hqo, hqp]
  · intro n o s hsafe hrecent horder hc hstarved hfreeze hfill
    obtain ⟨hstage, hclosed⟩ := frameClosed_of_safe hsafe hrecent horder hfill
    refine ⟨_, hclosed, fun p hrec => ⟨_, _, _, exec_closing hc, testWaiting_retested _, dropFrame_dropped n p _, ?_⟩⟩
    rw [closingBoundary_fills hstarved hfreeze hfill hstage (seekFill_recycles hrec)]
    exact makeFill_filled n p _

end Sys2Proof.Machine

/-! PROOFS. Take events: repeats and the stale test (O31), the page that a take chooses (O32), and successful takes with the
retirements behind them (O33). -/

namespace Sys2Proof.Machine

/-! ## Takes on an enabled slot of a RUNNING stream (R65) -/

/-- A take that is not frozen is a repeat without a candidate, and else successful, with the re-test behind it (R122). -/
theorem exec_take_unfrozen {n : StreamId} {x : SlotId} {s : State} (hr : s.resetn = true)
    (hs : (s.stream n).state = .running) (he : (s.slot n x).enabled = true) (hf : (s.slot n x).freeze = false) :
    exec (.takeEvent n x) s =
      .next ((candidate s n x).elim (repeatTake n x s) fun c => testWaiting (successfulTake n x c s)) := by
  show Host.Outcome.next (if s.resetn then take n x s else s) = _
  unfold take
  rw [if_pos hr, if_pos (by simp [hs, he]), if_neg (by simp [hf])]
  cases candidate s n x <;> rfl

/-! ## Updates of one slot record -/

theorem modSlot_modSlot (s : State) (n : StreamId) (x : SlotId) (f g : Slot → Slot) :
    (s.modSlot n x f).modSlot n x g = s.modSlot n x fun sl => g (f sl) := by
  unfold State.modSlot
  rw [modStream_modStream]
  cases x <;> rfl

/-- Raising reads nothing of the slot records. -/
theorem raise_modSlot (s : State) (n : StreamId) (x : SlotId) (f : Slot → Slot) (r : EventRecord) :
    (s.modSlot n x f).raise r = (s.raise r).modSlot n x f := raise_modStream s n _ r

/-- The record of a stream with one slot changed is the old one with the slot that now stands there. -/
theorem modSlot_stream_const (s : State) (n : StreamId) (x : SlotId) (f : Slot → Slot) :
    (s.modSlot n x f).stream n = (s.stream n).modSlot x fun _ => (s.modSlot n x f).slot n x := by
  rw [modSlot_stream_same, modSlot_slot_same, State.slot]
  cases x <;> rfl

/-! ## Repeats and the stale test (R70, R71) -/

/-- A slot that has counted a repeat, before the stale test (R70). -/
def Slot.repeated (sl : Slot) : Slot :=
  { sl with repeats := sl.repeats + 1, repeatsInRow := min (sl.repeatsInRow + 1) 255 }

theorem Slot.staleNow_iff (sl : Slot) :
    sl.staleNow = true ↔
      sl.staleThreshold ≠ 0 ∧ sl.staleThreshold.toNat ≤ sl.repeatsInRow ∧ sl.staleRaised = false := by
  simp [Slot.staleNow, and_assoc]

theorem repeatTake_stale {n : StreamId} {x : SlotId} {s : State} (h : (s.slot n x).repeated.staleNow = true) :
    repeatTake n x s =
      (s.raise
        { kind := .consumerStale, stream := some n, slot := some x,
          count := some (BitVec.ofNat 32 (min ((s.slot n x).repeatsInRow + 1) 255)) }).modSlot n x
        fun sl => { sl.repeated with staleRaised := true } := by
  have hslot : (s.modSlot n x Slot.repeated).slot n x = (s.slot n x).repeated := modSlot_slot_same ..
  show staleTest n x (s.modSlot n x Slot.repeated) = _
  unfold staleTest
  rw [hslot, if_pos h, raise_modSlot, modSlot_modSlot]
  rfl

theorem repeatTake_notStale {n : StreamId} {x : SlotId} {s : State} (h : ¬ (s.slot n x).repeated.staleNow = true) :
    repeatTake n x s = s.modSlot n x Slot.repeated := by
  show staleTest n x (s.modSlot n x Slot.repeated) = _
  unfold staleTest
  rw [modSlot_slot_same, if_neg h]

/-- Settles O31: the stale test holds or not of the slot that has counted the repeat. -/
theorem repeatAndStaleTest : Obligations.RepeatAndStaleTest := by
  intro n x k s hr hs he hf hc hk
  have hstale : (s.slot n x).repeated.staleNow = true ↔
      (s.slot n x).staleThreshold ≠ 0 ∧ (s.slot n x).staleThreshold.toNat ≤ k ∧ (s.slot n x).staleRaised = false :=
    hk ▸ Slot.staleNow_iff (s.slot n x).repeated
  have hframe := (repeatTake_frame n x s).strobe
  refine ⟨repeatTake n x s, by rw [exec_take_unfrozen hr hs he hf, hc]; rfl, ?_⟩
  by_cases hnow : (s.slot n x).repeated.staleNow = true
  · obtain ⟨hthreshold, hreached, hflag⟩ := hstale.1 hnow
    rw [repeatTake_stale hnow, ← hk] at hframe ⊢
    refine ⟨fun _ => ⟨?_, raised_raise s _⟩, fun hnot => ?_, ?_, fun m hm => ?_, raise_pages s _, hframe⟩
    · rw [modSlot_slot_same, raise_slot, hk, Slot.repeated]
    · rcases hnot with h | h | h
      · exact absurd h hthreshold
      · omega
      · rw [hflag] at h
        cases h
    · rw [modSlot_stream_const, raise_stream]
    · rw [modSlot_stream_other _ hm, raise_stream]
  · rw [repeatTake_notStale hnow] at hframe ⊢
    refine ⟨fun hall => absurd (hstale.2 hall) hnow, fun _ => ⟨?_, rfl, rfl, rfl⟩, modSlot_stream_const .., fun m hm => ?_, rfl,
      hframe⟩
    · rw [modSlot_slot_same, hk, Slot.repeated]
    · exact modSlot_stream_other s hm x _

/-! ## The candidate (R67, R68) -/

theorem newerThanTaken_iff (frame lastTaken : Option Word32) :
    newerThanTaken frame lastTaken = true ↔
      lastTaken = none ∨ ∃ l f, lastTaken = some l ∧ frame = some f ∧ NewerFrame f l := by
  cases lastTaken <;> cases frame <;> simp [newerThanTaken, newer_iff]

theorem candidate_newest {n : StreamId} {x : SlotId} {s : State} (h : (s.stream n).takePolicy = .newest) :
    candidate s n x =
      (s.stream n).ready.getLast?.filter fun p => newerThanTaken (s.page p).frame (s.slot n x).lastTaken := by
  unfold candidate
  dsimp only
  rw [h]
  cases (s.stream n).ready.getLast? <;> rfl

theorem candidate_oldest {n : StreamId} {x : SlotId} {s : State} (h : (s.stream n).takePolicy = .oldest) :
    candidate s n x =
      (s.stream n).ready.find? fun p => newerThanTaken (s.page p).frame (s.slot n x).lastTaken := by
  unfold candidate
  dsimp only
  rw [h]

/-- Settles O32, one policy after the other. -/
theorem candidateOfATake : Obligations.CandidateOfATake := by
  intro n x s isNewer hnewer
  have htest (p : PageId) : newerThanTaken (s.page p).frame (s.slot n x).lastTaken = true ↔ isNewer p :=
    (newerThanTaken_iff _ _).trans (hnewer p).symm
  refine ⟨fun hpolicy c => ?_, fun hpolicy c => ?_⟩
  · rw [candidate_newest hpolicy, Option.filter_eq_some_iff, htest]
  · simp only [candidate_oldest hpolicy, List.find?_eq_some_iff_append, Bool.not_eq_true', ← Bool.not_eq_true, htest]
    exact ⟨fun ⟨hc, older, newerPages, hready, hold⟩ => ⟨older, newerPages, hready, hc, hold⟩,
      fun ⟨older, newerPages, hready, hc, hold⟩ => ⟨hc, older, newerPages, hready, hold⟩⟩

/-! ## The slot moves to the candidate (R69 steps 1 to 5) -/

theorem leaveHeld_page (n : StreamId) (x : SlotId) (s : State) (q : PageId) :
    (leaveHeld n x s).page q = if (s.slot n x).held = some q then (s.page q).setHolder x false else s.page q := by
  unfold leaveHeld
  cases (s.slot n x).held with
  | none => rfl
  | some o =>
    by_cases hq : q = o
    · simp [hq]
    · simp [hq, Ne.symm hq]

theorem leaveHeld_stream (n m : StreamId) (x : SlotId) (s : State) : (leaveHeld n x s).stream m = s.stream m := by
  unfold leaveHeld
  cases (s.slot n x).held <;> rfl

theorem leaveHeld_sameEvents (n : StreamId) (x : SlotId) (s : State) : SameEvents s (leaveHeld n x s) := by
  unfold leaveHeld
  cases (s.slot n x).held <;> exact SameEvents.refl s

theorem Page.setHolder_setHolder (pg : Page) (x : SlotId) (v w : Bool) :
    (pg.setHolder x v).setHolder x w = pg.setHolder x w := by
  cases x <;> rfl

/-- The part once slot x has moved to page c, before any retirement test. -/
def slotMoved (n : StreamId) (x : SlotId) (c : PageId) (s : State) : State :=
  ((leaveHeld n x s).modPage c fun pg => pg.setHolder x true).modSlot n x fun sl => sl.taken c (s.page c).frame

theorem successfulTake_eq (n : StreamId) (x : SlotId) (c : PageId) (s : State) :
    successfulTake n x c s = retireAfterTake n (s.slot n x).held (slotMoved n x c s) := rfl

section SlotMoved

variable (n : StreamId) (x : SlotId) (c : PageId) (s : State)

theorem slotMoved_stream :
    (slotMoved n x c s).stream n = (s.stream n).modSlot x fun sl => sl.taken c (s.page c).frame := by
  rw [slotMoved, modSlot_stream_same, modPage_stream, leaveHeld_stream]

theorem slotMoved_otherStreams : OtherStreams n s (slotMoved n x c s) := fun m hm => by
  rw [slotMoved, modSlot_stream_other _ hm, modPage_stream, leaveHeld_stream]

theorem slotMoved_sameEvents : SameEvents s (slotMoved n x c s) := leaveHeld_sameEvents n x s

theorem slotMoved_frame : RotationFrame s (slotMoved n x c s) :=
  ((leaveHeld_frame n x s).trans (modPage_frame _ c _)).trans (modSlot_frame _ n x _)

theorem slotMoved_page_candidate : (slotMoved n x c s).page c = (s.page c).setHolder x true := by
  rw [slotMoved, modSlot_page, modPage_page_same, leaveHeld_page]
  split
  · exact Page.setHolder_setHolder ..
  · rfl

variable {n x c s}

theorem slotMoved_page_held {o : PageId} (ho : (s.slot n x).held = some o) (hne : o ≠ c) :
    (slotMoved n x c s).page o = (s.page o).setHolder x false := by
  rw [slotMoved, modSlot_page, modPage_page_other _ hne, leaveHeld_page, if_pos ho]

theorem slotMoved_page_other {q : PageId} (hne : q ≠ c) (hq : (s.slot n x).held ≠ some q) :
    (slotMoved n x c s).page q = s.page q := by
  rw [slotMoved, modSlot_page, modPage_page_other _ hne, leaveHeld_page, if_neg hq]

theorem slotMoved_owner (q : PageId) : ((slotMoved n x c s).page q).owner = (s.page q).owner := by
  by_cases hqc : q = c
  · rw [hqc, slotMoved_page_candidate, Page.setHolder_owner]
  · by_cases hq : (s.slot n x).held = some q
    · rw [slotMoved_page_held hq hqc, Page.setHolder_owner]
    · rw [slotMoved_page_other hqc hq]

end SlotMoved

/-! ## The retirement tests of a take (R69 step 6, R76 to R78) -/

theorem not_retirementHolds_of_holds {s : State} {n : StreamId} {x : SlotId} {q : PageId} (h : (s.page q).holds x = true) :
    ¬ RetirementHolds s n q := by
  rintro ⟨_, ha, hb, _⟩
  cases x
  · exact Bool.false_ne_true (ha.symm.trans h)
  · exact Bool.false_ne_true (hb.symm.trans h)

theorem Retired.mem_ready {n : StreamId} {tested : List PageId} {s u : State} (h : Retired n tested s u) {q : PageId} :
    q ∈ (u.stream n).ready ↔ q ∈ (s.stream n).ready ∧ ¬ (q ∈ tested ∧ RetirementHolds s n q) := by
  obtain ⟨gone, hgone, hstream, _⟩ := h
  rw [hstream, List.mem_filter, decide_eq_true_iff, hgone]

theorem retireAfterTake_newest {n : StreamId} {s : State} (h : (s.stream n).takePolicy = .newest) (old : Option PageId) :
    retireAfterTake n old s = old.toList.foldl (retireTest n) s := by
  unfold retireAfterTake
  rw [h]
  cases old <;> rfl

/-- Under OLDEST the ready pages are tested behind the old page. -/
theorem retireAfterTake_oldest {n : StreamId} {s : State} (h : (s.stream n).takePolicy = .oldest) (old : Option PageId) :
    retireAfterTake n old s =
      (old.toList ++ ((old.toList.foldl (retireTest n) s).stream n).ready).foldl (retireTest n) s := by
  rw [List.foldl_append]
  unfold retireAfterTake
  rw [h]
  cases old <;> rfl

/-- The tests behind a take are those of the old page and, under OLDEST, of every ready page. -/
theorem retireAfterTake_retired {n : StreamId} {old : Option PageId} {s : State}
    (hold : ∀ o, old = some o → (s.page o).owner = some n)
    (hready : ∀ q ∈ (s.stream n).ready, (s.page q).owner = some n) :
    ∃ tested : List PageId,
      (∀ q, q ∈ tested ↔ old = some q ∨ (s.stream n).takePolicy = .oldest ∧ q ∈ (s.stream n).ready)
        ∧ Retired n tested s (retireAfterTake n old s) := by
  have hfirst : ∀ q ∈ old.toList, (s.page q).owner = some n := fun q hq => hold q (Option.mem_toList.1 hq)
  cases hpolicy : (s.stream n).takePolicy with
  | newest =>
    rw [retireAfterTake_newest hpolicy]
    exact ⟨_, fun q => by simp, retireFold_retired hfirst⟩
  | oldest =>
    have hleft (q : PageId) := (retireFold_retired hfirst).mem_ready (q := q)
    rw [retireAfterTake_oldest hpolicy]
    refine ⟨_, fun q => ?_, retireFold_retired fun q hq => ?_⟩
    · simp only [List.mem_append, hleft, Option.mem_toList]
      tauto
    · rcases List.mem_append.1 hq with hq | hq
      · exact hfirst q hq
      · exact hready q ((hleft q).1 hq).1

/-- The ready pages of a safe state, and with them the pages that slots hold, are their stream's own. -/
theorem ready_owner_of_safe {s : State} (h : Safe s) {n : StreamId} {q : PageId} (hq : q ∈ (s.stream n).ready) :
    (s.page q).owner = some n := by
  obtain ⟨_, _, _, _, _, ⟨hring, _, _, hready, _⟩, _⟩ := h
  exact hring.owner (((hready n).2 q).1 hq).1

theorem held_ready_of_safe {s : State} (h : Safe s) {n : StreamId} {x : SlotId} {q : PageId}
    (hq : (s.slot n x).held = some q) : q ∈ (s.stream n).ready := by
  obtain ⟨_, _, _, _, _, ⟨_, _, _, _, ⟨_, hheld⟩, _⟩, _⟩ := h
  exact hheld n x q hq

/-- Settles O33: the slot moves to the candidate, whose new holder keeps it from the tests that follow. (The obligation's own
name in lowerCamelCase is the model's function.) -/
theorem successfulTake_moves_and_retires : Obligations.SuccessfulTake := by
  intro n x c s hsafe hr hs he hf hc
  have hready : ((slotMoved n x c s).stream n).ready = (s.stream n).ready := by simp [slotMoved_stream]
  have hpolicy : ((slotMoved n x c s).stream n).takePolicy = (s.stream n).takePolicy := by simp [slotMoved_stream]
  obtain ⟨tested, htested, hretired⟩ := retireAfterTake_retired (n := n) (old := (s.slot n x).held) (s := slotMoved n x c s)
    (fun o ho => (slotMoved_owner o).trans (ready_owner_of_safe hsafe (held_ready_of_safe hsafe ho)))
    (fun q hq => (slotMoved_owner q).trans (ready_owner_of_safe hsafe (hready ▸ hq)))
  rw [hpolicy, hready] at htested
  refine ⟨slotMoved n x c s, _, _, tested, by rw [exec_take_unfrozen hr hs he hf, hc]; rfl, testWaiting_retested _,
    slotMoved_stream n x c s, slotMoved_page_candidate n x c s, fun o => slotMoved_page_held, fun q => slotMoved_page_other,
    slotMoved_otherStreams n x c s, slotMoved_sameEvents n x c s, (slotMoved_frame n x c s).rotationOnly, htested, hretired, ?_⟩
  have hkept : ¬ RetirementHolds (slotMoved n x c s) n c :=
    not_retirementHolds_of_holds (x := x) (by rw [slotMoved_page_candidate, Page.setHolder_holds_same])
  exact hretired.mem_ready.2 ⟨hready.symm ▸ candidate_ready hc, fun h => hkept h.2⟩

end Sys2Proof.Machine

/-! PROOFS. START-STREAM (O17) and STOP-STREAM (O18). -/

namespace Sys2Proof.Machine

/-! ## A steering command that is taken -/

/-- What a steering command leaves, with the re-test behind it. -/
theorem steering_taken {i : Instr} {bytes : List Byte} {bits : List Bool} {command : State → Answer} {s u : State}
    (hr : PortReady s) (hf : frameOf i = some (bytes, bits)) (he : exec i s = .next (steeringFrameEnd bytes command s))
    (hc : command (shiftFrame bytes s) = Answer.done u) (hu : CommandFrame (shiftFrame bytes s) u) :
    ∃ v, exec i s = .next v ∧ Retested { u with response := [0x00] } v ∧ Framed i [0x00] s { u with response := [0x00] } := by
  rw [steeringFrameEnd_taken hr (by rw [hc]; rfl)] at he
  obtain ⟨hans, hframed⟩ := answered_of (data := []) hf hc hu
  exact ⟨_, he, hans ▸ testWaiting_retested _, hframed⟩

/-! ## The conditions of a start (R15, R87) -/

theorem ringFree_iff {s : State} {n : StreamId} :
    ringFree s n = true ↔ ∀ p ∈ (s.stream n).ring, (s.page p).stage = .free := by
  simp only [ringFree, List.all_eq_true, beq_iff_eq]

theorem ringFree_eq_false {s : State} {n : StreamId} :
    ringFree s n = false ↔ ∃ p ∈ (s.stream n).ring, (s.page p).stage ≠ .free := by
  simp only [← Bool.not_eq_true, ringFree_iff, not_forall, exists_prop, ne_eq]

theorem slotFits_iff (st : Stream) (sl : Slot) : slotFits st sl = true ↔ (sl.enabled = true → CropFits st sl) := by
  simp only [slotFits, CropFits, Bool.or_eq_true, Bool.not_eq_true', Bool.and_eq_true, decide_eq_true_eq,
    ← Bool.not_eq_true, imp_iff_not_or]

theorem geometryOk_iff {s : State} {n : StreamId} : geometryOk s n = true ↔ GeometryFits s n := by
  refine ⟨geometryFits_of_geometryOk, fun ⟨hpages, hline, hsize, hA, hB⟩ => ?_⟩
  simp only [geometryOk, slotFits_iff, Bool.and_eq_true, List.all_eq_true, decide_eq_true_eq]
  exact ⟨⟨⟨⟨hpages, hline⟩, hsize⟩, hA⟩, hB⟩

/-! ## START-STREAM (R87, R88) -/

section Start

variable {b : Byte} {n : StreamId} (hn : streamOf b = some n) (s : State)
include hn

theorem cmdStartStream_badState (hs : (s.stream n).state ≠ .off) :
    cmdStartStream b s = Answer.refuse .badState s := by
  unfold cmdStartStream
  rw [hn]
  exact if_pos (bne_iff_ne.2 hs)

theorem cmdStartStream_busy (hs : (s.stream n).state = .off) (hf : ringFree s n = false) :
    cmdStartStream b s = Answer.refuse .busy s := by
  unfold cmdStartStream
  simp [hn, hs, hf]

theorem cmdStartStream_geometryRefused (hs : (s.stream n).state = .off) (hf : ringFree s n = true)
    (hg : geometryOk s n = false) : cmdStartStream b s = Answer.refuse .geometry s := by
  unfold cmdStartStream
  simp [hn, hs, hf, hg]

theorem cmdStartStream_taken {p : PageId} {rest : List PageId} (hs : (s.stream n).state = .off)
    (hf : ringFree s n = true) (hg : geometryOk s n = true) (hring : (s.stream n).ring = p :: rest) :
    cmdStartStream b s = Answer.done (startOn n p s) := by
  unfold cmdStartStream
  simp [hn, hs, hf, hg, hring]

end Start

theorem startOn_frame (n : StreamId) (p : PageId) (s : State) : RotationFrame s (startOn n p s) := by
  constructor <;> rfl

theorem startOn_sameEvents (n : StreamId) (p : PageId) (s : State) : SameEvents s (startOn n p s) :=
  SameEvents.refl s

theorem startOn_stream_same (n : StreamId) (p : PageId) (s : State) :
    (startOn n p s).stream n = (s.stream n).started p := (startOn_stream n p s n).trans (if_pos rfl)

theorem startOn_otherStreams (n : StreamId) (p : PageId) (s : State) : OtherStreams n s (startOn n p s) :=
  fun m hm => (startOn_stream n p s m).trans (if_neg hm)

theorem startOn_slot (n : StreamId) (p : PageId) (s : State) (x : SlotId) :
    (startOn n p s).slot n x = (s.slot n x).restarted := by
  rw [State.slot, startOn_stream_same]
  cases x <;> rfl

theorem startOn_stream_slots (n : StreamId) (p : PageId) (s : State) :
    (startOn n p s).stream n =
      { (s.stream n).started p with slotA := (startOn n p s).slot n .a, slotB := (startOn n p s).slot n .b } := by
  rw [startOn_slot, startOn_slot]
  exact startOn_stream_same n p s

theorem startOn_page_first (n : StreamId) (p : PageId) (s : State) : (startOn n p s).page p = (s.page p).firstFill :=
  (startOn_page n p s p).trans (if_pos rfl)

section Ring

variable {n : StreamId} {p : PageId} {rest : List PageId} {s : State} (hring : (s.stream n).ring = p :: rest)
include hring

theorem startOn_page_rest (hp : p ∉ rest) {q : PageId} (hq : q ∈ rest) :
    (startOn n p s).page q = { s.page q with damaged := false } := by
  have hne : q ≠ p := fun e => hp (e ▸ hq)
  rw [startOn_page, if_neg hne, if_pos (hring ▸ List.mem_cons_of_mem p hq)]

theorem startOn_otherPages : OtherPages (p :: rest) s (startOn n p s) := fun q hq => by
  rw [startOn_page, if_neg (List.ne_of_not_mem_cons hq), if_neg (hring ▸ hq)]

end Ring

/-- Settles O17, one check after the other; what a start leaves is said of `startOn`. -/
theorem startStreamDecides : Obligations.StartStreamDecides := by
  refine ⟨fun b f s hr hb => ?_, fun n b f s hr hb => ?_⟩
  · refine steering_refused hr rfl rfl (code := .badArg) (by decide) ?_
    unfold cmdStartStream
    rw [streamOf_eq_none hb]
  replace hb := streamOf_eq_some.2 hb
  refine ⟨fun hs => ?_, fun hs hbusy => ?_, fun hs hfree hbad => ?_, fun p rest hs hring hp hfree hfits => ?_⟩
  · exact steering_refused hr rfl rfl (by decide) (cmdStartStream_badState hb _ hs)
  · exact steering_refused hr rfl rfl (by decide) (cmdStartStream_busy hb _ hs (ringFree_eq_false.2 hbusy))
  · have hg : geometryOk s n = false := Bool.eq_false_iff.2 (mt geometryOk_iff.1 hbad)
    exact steering_refused hr rfl rfl (by decide) (cmdStartStream_geometryRefused hb _ hs (ringFree_iff.2 hfree) hg)
  · have hcmd := cmdStartStream_taken hb (shiftFrame ([0x30, b] ++ f.extra) s) hs (ringFree_iff.2 hfree)
      (geometryOk_iff.2 hfits) hring
    have hfr := startOn_frame n p (shiftFrame ([0x30, b] ++ f.extra) s)
    obtain ⟨u, he, hret, hframed⟩ := steering_taken (i := .startStream b f) hr rfl rfl hcmd hfr.command
    obtain ⟨htraffic, _⟩ := hfr.strobe
    refine ⟨_, u, he, hret, hframed, startOn_page_first n p _, fun q hq => startOn_page_rest hring hp hq,
      startOn_otherPages hring, startOn_slot n p _,
      startOn_stream_slots n p (shiftFrame ([0x30, b] ++ f.extra) s), startOn_otherStreams n p _, htraffic,
      startOn_sameEvents n p _⟩

/-! ## The end of a stop (R93) -/

theorem endStop_pages (n : StreamId) (s : State) : (endStop n s).pages = s.pages := by
  unfold endStop
  split
  · exact raise_pages _ _
  · rfl

theorem endStop_otherStreams (n : StreamId) (s : State) : OtherStreams n s (endStop n s) := fun m hm => by
  unfold endStop
  split
  · rw [raise_stream, modStream_stream_other _ hm]
  · rfl

/-- An end of a stop writes nothing of the stream's record but its state. -/
theorem endStop_stream (n : StreamId) (s : State) :
    (endStop n s).stream n = { s.stream n with state := ((endStop n s).stream n).state } := by
  unfold endStop
  split
  · rw [raise_stream, modStream_stream_same]
  · rfl

theorem endStop_ends {n : StreamId} {s : State} (hs : (s.stream n).state = .stopping) (hf : ringFree s n = true) :
    ((endStop n s).stream n).state = .off ∧ Raised { kind := .streamStopped, stream := some n } s (endStop n s) := by
  have he : endStop n s = (s.raise (streamRecord .streamStopped n)).modStream n fun st => { st with state := .off } :=
    (if_pos (by rw [hs, hf]; rfl)).trans (raise_modStream s n _ _)
  rw [he, modStream_stream_same]
  exact ⟨rfl, raised_raise s _⟩

theorem endStop_waits {n : StreamId} {s : State} (hf : ringFree s n = false) : endStop n s = s :=
  if_neg (by simp [hf])

/-! ## STOP-STREAM (R90, R91, R93) -/

theorem Page.inCycle_iff (pg : Page) :
    pg.inCycle = true ↔ pg.stage = .filling ∨ pg.stage = .closing ∨ pg.stage = .sealed ∨ pg.stage = .published := by
  simp only [Page.inCycle, Bool.or_eq_true, beq_iff_eq, or_assoc]

/-- The part once a stop of stream n has released the pages, before the stop can end. -/
def stopBegun (n : StreamId) (s : State) : State :=
  { s with pages := stopPages s (s.stream n).ring }.modStream n Stream.stopped

theorem stopRunning_eq (n : StreamId) (s : State) : stopRunning n s = endStop n (stopBegun n s) := rfl

theorem stopBegun_stream (n : StreamId) (s : State) : (stopBegun n s).stream n = (s.stream n).stopped :=
  modStream_stream_same _ n _

theorem stopBegun_otherStreams (n : StreamId) (s : State) : OtherStreams n s (stopBegun n s) :=
  fun _ hm => modStream_stream_other _ hm _

theorem stopBegun_page (n : StreamId) (s : State) (q : PageId) :
    (stopBegun n s).page q =
      if q ∈ (s.stream n).ring ∧ (s.page q).inCycle = true then (s.page q).released else s.page q :=
  stopPages_get s _ q

theorem stopRunning_page (n : StreamId) (s : State) (q : PageId) : (stopRunning n s).page q = (stopBegun n s).page q := by
  rw [stopRunning_eq, State.page, endStop_pages, ← State.page]

theorem stopRunning_page_released {n : StreamId} {s : State} {q : PageId} (hq : q ∈ (s.stream n).ring)
    (hc : (s.page q).inCycle = true) : (stopRunning n s).page q = (s.page q).released := by
  rw [stopRunning_page, stopBegun_page, if_pos ⟨hq, hc⟩]

theorem stopRunning_page_kept {n : StreamId} {s : State} {q : PageId}
    (h : q ∉ (s.stream n).ring ∨ (s.page q).stage = .unassigned ∨ (s.page q).stage = .free
      ∨ (s.page q).stage = .retiring) : (stopRunning n s).page q = s.page q := by
  rw [stopRunning_page, stopBegun_page, if_neg]
  rintro ⟨hq, hc⟩
  rw [Page.inCycle_iff] at hc
  rcases h with h | h | h | h
  · exact h hq
  all_goals simp [h] at hc

theorem stopRunning_stream (n : StreamId) (s : State) :
    (stopRunning n s).stream n = { (s.stream n).stopped with state := ((stopRunning n s).stream n).state } := by
  rw [stopRunning_eq, ← stopBegun_stream]
  exact endStop_stream n _

theorem stopRunning_slot (n : StreamId) (s : State) (x : SlotId) :
    (stopRunning n s).slot n x = { s.slot n x with held := none } := by
  rw [State.slot, stopRunning_stream]
  cases x <;> rfl

theorem stopRunning_stream_slots (n : StreamId) (s : State) :
    (stopRunning n s).stream n =
      { (s.stream n).stopped with
        state := ((stopRunning n s).stream n).state, slotA := (stopRunning n s).slot n .a,
        slotB := (stopRunning n s).slot n .b } := by
  rw [stopRunning_slot, stopRunning_slot]
  exact stopRunning_stream n s

theorem stopRunning_otherStreams (n : StreamId) (s : State) : OtherStreams n s (stopRunning n s) := fun m hm =>
  (endStop_otherStreams n _ m hm).trans (stopBegun_otherStreams n s m hm)

/-- The ring of the stream stays through the stop, so the test of R93 is on the pages that the stop leaves. -/
theorem stopBegun_ringFree_iff {n : StreamId} {s : State} :
    ringFree (stopBegun n s) n = true ↔ ∀ p ∈ (s.stream n).ring, ((stopRunning n s).page p).stage = .free := by
  simp only [ringFree_iff, stopBegun_stream, stopRunning_page]
  rfl

theorem stopRunning_ends {n : StreamId} {s : State}
    (h : ∀ p ∈ (s.stream n).ring, ((stopRunning n s).page p).stage = .free) :
    ((stopRunning n s).stream n).state = .off
      ∧ Raised { kind := .streamStopped, stream := some n } s (stopRunning n s) := by
  obtain ⟨hoff, hraised⟩ := endStop_ends (congrArg Stream.state (stopBegun_stream n s)) (stopBegun_ringFree_iff.2 h)
  exact ⟨hoff, hraised⟩

theorem stopRunning_waits {n : StreamId} {s : State}
    (h : ∃ p ∈ (s.stream n).ring, ((stopRunning n s).page p).stage ≠ .free) :
    ((stopRunning n s).stream n).state = .stopping ∧ (stopRunning n s).events = s.events
      ∧ (stopRunning n s).lost = s.lost ∧ (stopRunning n s).attn = s.attn := by
  obtain ⟨p, hp, hne⟩ := h
  have hf : ringFree (stopBegun n s) n = false := Bool.eq_false_iff.2 fun k => hne (stopBegun_ringFree_iff.1 k p hp)
  rw [stopRunning_eq, endStop_waits hf, stopBegun_stream]
  exact ⟨rfl, rfl, rfl, rfl⟩

section Stop

variable {b : Byte} {n : StreamId} (hn : streamOf b = some n) (s : State)
include hn

theorem cmdStopStream_undefined (hs : (s.stream n).state = .undefined) :
    cmdStopStream b s = Answer.refuse .badState s := by
  unfold cmdStopStream
  simp only [hn, hs]

theorem cmdStopStream_notRunning (hs : (s.stream n).state = .off ∨ (s.stream n).state = .stopping) :
    cmdStopStream b s = Answer.done s := by
  unfold cmdStopStream
  rcases hs with hs | hs <;> simp only [hn, hs]

theorem cmdStopStream_running (hs : (s.stream n).state = .running) :
    cmdStopStream b s = Answer.done (stopRunning n s) := by
  unfold cmdStopStream
  simp only [hn, hs]

end Stop

/-- Settles O18, by the state of the stream; what a stop leaves is said of `stopRunning`. -/
theorem stopStreamReleases : Obligations.StopStreamReleases := by
  refine ⟨fun b f s hr hb => ?_, fun n b f s hr hb => ?_⟩
  · refine steering_refused hr rfl rfl (code := .badArg) (by decide) ?_
    unfold cmdStopStream
    rw [streamOf_eq_none hb]
  replace hb := streamOf_eq_some.2 hb
  refine ⟨fun hs => ?_, fun hs => ?_, fun hs => ?_⟩
  · exact steering_refused hr rfl rfl (by decide) (cmdStopStream_undefined hb _ hs)
  · obtain ⟨u, he, hret, hframed⟩ := steering_taken (i := .stopStream b f) hr rfl rfl
      (cmdStopStream_notRunning hb _ hs) (CommandFrame.refl _)
    exact ⟨_, u, he, hret, hframed, ⟨rfl, rfl⟩, ⟨rfl, rfl, rfl, rfl, rfl, rfl⟩, SameEvents.refl s⟩
  · have hfr := stopRunning_frame n (shiftFrame ([0x31, b] ++ f.extra) s)
    obtain ⟨htraffic, hsettings, _⟩ := hfr.strobe
    obtain ⟨u, he, hret, hframed⟩ := steering_taken (i := .stopStream b f) hr rfl rfl
      (cmdStopStream_running hb _ hs) hfr.command
    refine ⟨_, u, he, hret, hframed, fun p hp hstage => ?_, fun p hkept => stopRunning_page_kept hkept,
      stopRunning_slot n _, stopRunning_stream_slots n (shiftFrame ([0x31, b] ++ f.extra) s),
      fun hfree => stopRunning_ends hfree, fun hbusy => stopRunning_waits hbusy, stopRunning_otherStreams n _, htraffic,
      hsettings⟩
    rw [← Page.released_eq]
    exact stopRunning_page_released hp ((Page.inCycle_iff _).2 hstage)

end Sys2Proof.Machine

/-! PROOFS. Requests that steering passes or refuses (O34, O35, O36), and the cut of a request (O39). -/

namespace Sys2Proof.Machine

/-! ## The beats of a request (R184) -/

theorem reqData_takenBeats (r : Request) : TakenBeats r (reqData r) := by
  unfold TakenBeats reqData reqBeats
  cases r.kind with
  | read => exact ⟨fun _ => rfl, fun h => (by cases h)⟩
  | write =>
    refine ⟨fun h => (by cases h), fun _ => ⟨by simp, fun k hk => ?_⟩⟩
    rw [List.getElem?_take_of_lt hk, List.getElem?_append]
    by_cases h : k < r.beats.length
    · simp [h, List.getD]
    · have hmiss : k - r.beats.length < r.len.toNat + 1 := by omega
      simp [h, List.getD, hmiss, emptyBeat]

/-! ## The lowest overlapped byte (R104, R105) -/

theorem lowestBy_eq_argmin {α : Type} (key : α → Nat) (l : List α) : lowestBy key l = l.argmin key := by
  have hstep : lowerOf key = List.argAux fun b c => key b < key c := by
    funext best x
    cases best <;> rfl
  rw [lowestBy, hstep, List.argmin]

theorem lowestBy_eq_some {α : Type} {key : α → Nat} {l : List α} {x : α} (h : lowestBy key l = some x) :
    x ∈ l ∧ ∀ y ∈ l, key x ≤ key y := by
  rw [lowestBy_eq_argmin] at h
  exact ⟨List.argmin_mem h, fun _ hy => List.le_of_mem_argmin hy h⟩

theorem exists_lowestBy {α : Type} (key : α → Nat) {l : List α} (h : l ≠ []) : ∃ x, lowestBy key l = some x := by
  rw [← Option.ne_none_iff_exists', lowestBy_eq_argmin, Ne, List.argmin_eq_none]
  exact h

/-- The page that holds the lowest overlapped byte names the owner in the report (R104). -/
theorem firstPageOwner_eq {s : State} {r : Request} {l : List PageId} {q : PageId} (hq : q ∈ l)
    (hlow : ∀ q' ∈ l, q' ≠ q →
      firstShared (reqRange r) (s.page q).range < firstShared (reqRange r) (s.page q').range) :
    firstPageOwner s r l = (s.page q).owner := by
  obtain ⟨x, hx⟩ := exists_lowestBy (fun q => firstShared (reqRange r) (s.page q).range) (List.ne_nil_of_mem hq)
  obtain ⟨hmem, hle⟩ := lowestBy_eq_some hx
  have hxq : x = q := by
    by_contra hne
    exact absurd (hlow x hmem hne) (Nat.not_lt.2 (hle q hq))
  rw [firstPageOwner, hx, hxq]
  rfl

/-- The stream of the aperture that holds the lowest byte in any aperture is that of a RANGE report (R105). -/
theorem firstApertureStream_eq {r : Request} {l : List Aperture} {a : Aperture} (ha : a ∈ l)
    (hlow : ∀ b ∈ l, b.stream ≠ a.stream → firstShared (reqRange r) a.range < firstShared (reqRange r) b.range) :
    firstApertureStream r l = some a.stream := by
  obtain ⟨x, hx⟩ := exists_lowestBy (fun b => firstShared (reqRange r) b.range) (List.ne_nil_of_mem ha)
  obtain ⟨hmem, hle⟩ := lowestBy_eq_some hx
  have hstream : x.stream = a.stream := by
    by_contra hne
    exact absurd (hlow x hmem hne) (Nat.not_lt.2 (hle a ha))
  rw [firstApertureStream, hx, ← hstream]
  rfl

/-! ## The order of the tests (R103 to R107) -/

theorem mem_touchedApertures {s : State} {r : Request} {a : Aperture} :
    a ∈ touchedApertures s r ↔ a ∈ definedApertures s ∧ (reqRange r).overlaps a.range = true := List.mem_filter

theorem mem_touchedPages {s : State} {r : Request} {q : PageId} :
    q ∈ touchedPages s r ↔ (s.page q).stage ≠ .unassigned ∧ (reqRange r).overlaps (s.page q).range = true := by
  simp [touchedPages, assignedPages, Page.assigned, and_comm]

theorem touchedApertures_eq_nil {s : State} {r : Request} : touchedApertures s r = [] ↔ OutsideApertures s r := by
  simp [touchedApertures, OutsideApertures]

theorem refuseReported_refusedWith (p : PortId) (r : Request) (why : Reason) (n : Option StreamId) :
    RefusedWith (refuseReported p r why n) why (some (refusalRecord p r why n)) := ⟨rfl, rfl, rfl, rfl, rfl⟩

theorem refuseSilent_refusedWith (why : Reason) : RefusedWith (refuseSilent why) why none := ⟨rfl, rfl, rfl, rfl, rfl⟩

section Order

variable {s : State} {p : PortId} {r : Request}

theorem steer_pastTop (h : (reqRange r).pastTop = true) : steer s p r = refuseReported p r .range none := if_pos h

theorem steer_outside (htop : (reqRange r).pastTop = false) (hout : OutsideApertures s r) :
    steer s p r = if (touchedPages s r).isEmpty then passDecision r
      else refuseReported p r .privatePage (firstPageOwner s r (touchedPages s r)) := by
  rw [steer, htop, touchedApertures_eq_nil.2 hout]
  rfl

/-- A request that meets an aperture and lies wholly inside none (R105). -/
theorem steer_across {a : Aperture} (htop : (reqRange r).pastTop = false) (ha : a ∈ touchedApertures s r)
    (hnone : ∀ b ∈ definedApertures s, (reqRange r).inside b.range = false) :
    steer s p r = refuseReported p r .range (firstApertureStream r (touchedApertures s r)) := by
  have hmeets : (touchedApertures s r).isEmpty = false := List.isEmpty_eq_false_iff_exists_mem.2 ⟨a, ha⟩
  have hfind : (touchedApertures s r).find? (fun b => (reqRange r).inside b.range) = none :=
    List.find?_eq_none.2 fun b hb => by simp [hnone b (mem_touchedApertures.1 hb).1]
  rw [steer, htop, hmeets, hfind]
  rfl

section Inside

variable {a : Aperture}

theorem steerInside_off (h : (s.stream a.stream).state = .off) : steerInside s p r a = refuseSilent .idle := by
  simp only [steerInside, h]

theorem steerInside_stopping (h : (s.stream a.stream).state = .stopping) :
    steerInside s p r a = refuseSilent .stopping := by
  simp only [steerInside, h]

theorem steerInside_misaligned (h : (s.stream a.stream).state = .running) (hal : r.addr.toNat % 16 ≠ 0) :
    steerInside s p r a = refuseReported p r .align (some a.stream) := by
  simp [steerInside, h, hal]

theorem steerInside_notAllowed (h : (s.stream a.stream).state = .running) (hal : r.addr.toNat % 16 = 0)
    (hrole : roleAllows (s.stream a.stream) a.role r = false) :
    steerInside s p r a = refuseReported p r .role (some a.stream) := by
  simp [steerInside, h, hal, hrole]

end Inside

end Order

/-- The role test fails on the producer's tag, or on the slot's tag or a WRITE (R107). -/
theorem roleAllows_eq_false {s : State} {n : StreamId} {role : Role} {r : Request} :
    roleAllows (s.stream n) role r = false ↔
      role = .producer ∧ r.tag ≠ (s.stream n).producerTag
        ∨ ∃ x, role = .slot x ∧ (r.tag ≠ (s.slot n x).tag ∨ r.kind = .write) := by
  cases role with
  | producer => simp [roleAllows]
  | slot x => cases hk : r.kind <;> simp [roleAllows, State.slot, hk]

theorem reqRange_pastTop_iff (r : Request) :
    (reqRange r).pastTop = true ↔ 0xFFFFFFFFFF < r.addr.toNat + 16 * (r.len.toNat + 1) - 1 := by
  rw [← Bool.not_eq_false, Range.pastTop_eq_false, Nat.not_le]
  rfl

/-- Settles O34: outside every aperture steering looks at the assigned pages that the request meets. -/
theorem requestOutsideApertures : Obligations.RequestOutsideApertures := by
  intro s p r htop hout
  have hsteer := steer_outside (p := p) (Range.pastTop_eq_false.2 htop) hout
  refine ⟨fun hpages => ?_, fun q hstage hmeets hlow => ?_⟩
  · have hnone : touchedPages s r = [] := List.eq_nil_iff_forall_not_mem.2 fun q hq => by
      obtain ⟨hstage, hmeets⟩ := mem_touchedPages.1 hq
      simp [hpages q hstage] at hmeets
    rw [hsteer, hnone]
    exact ⟨reqData r, reqData_takenBeats r, rfl, rfl, rfl, rfl, rfl⟩
  · have hq : q ∈ touchedPages s r := mem_touchedPages.2 ⟨hstage, hmeets⟩
    have howner : firstPageOwner s r (touchedPages s r) = (s.page q).owner :=
      firstPageOwner_eq hq fun q' hq' hne =>
        hlow q' hne (mem_touchedPages.1 hq').1 (mem_touchedPages.1 hq').2
    rw [hsteer, if_neg (by simpa using List.ne_nil_of_mem hq), howner]
    exact refuseReported_refusedWith p r _ _

/-- Settles O35, by the top of the address space and by the aperture that holds the lowest shared byte. -/
theorem requestRefusedRange : Obligations.RequestRefusedRange := by
  refine ⟨fun s p r htop => ?_, fun s p r a htop ha hmeets hnone hlow => ?_⟩
  · rw [steer_pastTop ((reqRange_pastTop_iff r).2 htop)]
    exact refuseReported_refusedWith p r _ _
  · have htouched : a ∈ touchedApertures s r := mem_touchedApertures.2 ⟨ha, hmeets⟩
    have hstream : firstApertureStream r (touchedApertures s r) = some a.stream :=
      firstApertureStream_eq htouched fun b hb hne =>
        hlow b (mem_touchedApertures.1 hb).1 hne (mem_touchedApertures.1 hb).2
    rw [steer_across (Range.pastTop_eq_false.2 htop) htouched hnone, hstream]
    exact refuseReported_refusedWith p r _ _

/-- Settles O36, by the state of the stream whose aperture holds the request. -/
theorem requestRefusedInsideAnAperture : Obligations.RequestRefusedInsideAnAperture := by
  intro s p r a hranges htop ha hinside
  rw [steer_inside hranges (Range.pastTop_eq_false.2 htop) ha hinside]
  refine ⟨fun hoff => ?_, fun hstop => ?_, fun hrun => ⟨fun hal => ?_, fun hal hrole => ?_⟩⟩
  · rw [steerInside_off hoff]
    exact refuseSilent_refusedWith _
  · rw [steerInside_stopping hstop]
    exact refuseSilent_refusedWith _
  · rw [steerInside_misaligned hrun hal]
    exact refuseReported_refusedWith p r _ _
  · rw [steerInside_notAllowed hrun hal (roleAllows_eq_false.2 hrole)]
    exact refuseReported_refusedWith p r _ _

/-! ## The cut at the line boundary (R111) -/

theorem next_line_start {lineLength : Nat} (h : 0 < lineLength) (o : Nat) :
    (o + (lineLength - o % lineLength)) % lineLength = 0 := by
  have hmod := Nat.mod_lt o h
  have hdiv := Nat.div_add_mod o lineLength
  have hnext : o + (lineLength - o % lineLength) = lineLength * (o / lineLength + 1) := by
    rw [Nat.mul_add]
    omega
  rw [hnext, Nat.mul_mod_right]

theorem cutLine_whole {lineLength o beats : Nat} (h : o % lineLength + 16 * beats ≤ lineLength) :
    cutLine lineLength o beats = [(o, beats)] := if_pos h

theorem cutLine_crossing {lineLength o beats : Nat} (h : ¬ o % lineLength + 16 * beats ≤ lineLength) :
    cutLine lineLength o beats =
      [(o, (lineLength - o % lineLength) / 16),
       (o + (lineLength - o % lineLength), beats - (lineLength - o % lineLength) / 16)] := if_neg h

theorem cutLine_head (lineLength o beats : Nat) : (cutLine lineLength o beats).head?.map (·.1) = some o := by
  by_cases h : o % lineLength + 16 * beats ≤ lineLength
  · rw [cutLine_whole h]
    rfl
  · rw [cutLine_crossing h]
    rfl

theorem cutLine_sum (lineLength o beats : Nat) : ((cutLine lineLength o beats).map (·.2)).sum = beats := by
  by_cases h : o % lineLength + 16 * beats ≤ lineLength
  · simp [cutLine_whole h]
  · simp only [cutLine_crossing h, List.map_cons, List.map_nil, List.sum_cons, List.sum_nil]
    omega

/-- The second piece of a cut begins where the first ends, at the start of the next line. -/
theorem cutLine_second {lineLength o beats : Nat} (hl : 0 < lineLength) (hl16 : lineLength % 16 = 0) (ho : o % 16 = 0)
    {c d : Nat × Nat} (h : cutLine lineLength o beats = [c, d]) : d.1 = c.1 + 16 * c.2 ∧ d.1 % lineLength = 0 := by
  by_cases hin : o % lineLength + 16 * beats ≤ lineLength
  · rw [cutLine_whole hin] at h
    cases h
  · rw [cutLine_crossing hin] at h
    obtain ⟨rfl, rfl⟩ : _ = c ∧ _ = d := by simpa using h
    have hcol : o % lineLength % 16 = 0 := by rw [Nat.mod_mod_of_dvd o (Nat.dvd_of_mod_eq_zero hl16), ho]
    refine ⟨?_, next_line_start hl o⟩
    dsimp only
    omega

/-- The pieces of a cut take the beats one after another. -/
theorem piecesOf_data (address : Nat → Nat) (l : List (Nat × Nat)) (data : List WriteBeat) :
    (piecesOf address l data).flatMap (·.data) = data.take (l.map (·.2)).sum := by
  induction l generalizing data with
  | nil => simp [piecesOf]
  | cons c rest ih =>
    obtain ⟨o, k⟩ := c
    simp [piecesOf, ih, List.take_add]

/-- Settles O39: a request that stays in its line is one piece, and one that crosses its end is two. -/
theorem cutKeepsTheRequest : Obligations.CutKeepsTheRequest := by
  intro lineLength o beats address data hl hl16 ho hb hb16 hdata
  have hsum := cutLine_sum lineLength o beats
  refine ⟨(cutLine_length lineLength o beats).2, hsum, fun c hc => ?_, cutLine_head lineLength o beats,
    fun c d h => cutLine_second (by omega) hl16 ho h, ?_⟩
  · obtain ⟨hline, _, _, hone, _⟩ := mem_cutLine hl hl16 ho hb hb16 hc
    exact ⟨hone, hline⟩
  · rw [piecesOf_data, hsum, ← hdata, List.take_length]

end Sys2Proof.Machine

/-! PROOFS. Grants to the only port with pieces queued, and the acceptance of a request (O42). -/

namespace Sys2Proof.Machine

/-! ## One grant (R124, R139, R140, R144) -/

/-- The message of a piece, field by field (R139, R183). -/
theorem pieceMessage_eq (en : Entry) (r : PieceRef) (pc : Piece) :
    pieceMessage en r pc =
      { kind := if en.kind = .write then 1 else 0, addr := pc.addr, len := BitVec.ofNat 4 (pc.length - 1),
        downTag := BitVec.ofNat 7 (2 * r.entry.val + r.second.toNat), tag := en.tag, beats := pc.data } := by
  unfold pieceMessage PieceRef.wireTag lengthField
  cases en.kind <;> cases r.second <;> rfl

/-- An entry whose piece goes out on the link: ISSUED at the first one (R124, R140). -/
def Entry.pieceOut (en : Entry) (second : Bool) : Entry :=
  { en with
    state := if en.state = .queued then .issued else en.state,
    pieces := en.pieces.modify second.toNat fun pc => { pc with status := .outstanding, data := [] } }

theorem Entry.pieceOut_piece_isSome (en : Entry) (second b : Bool) :
    ((en.pieceOut second).piece b).isSome = (en.piece b).isSome := by
  simp [Entry.piece_eq, Entry.pieceOut, List.getElem?_modify]

theorem sendPiece_some {s : State} {r : PieceRef} {pc : Piece} (hpc : (s.entry r.entry).piece r.second = some pc) :
    sendPiece r s =
      { s.modEntry r.entry (fun en => en.pieceOut r.second) with
        links := { s.links with sentPieces := s.links.sentPieces ++ [pieceMessage (s.entry r.entry) r pc] } } := by
  unfold sendPiece
  rw [hpc]
  dsimp only
  congr 1
  refine congrArg State.entries (modEntry_congr ?_)
  unfold Entry.pieceOut
  cases h : (s.entry r.entry).state <;> simp [h, Entry.modPiece_eq]

section GrantPort

variable {s : State} {p : PortId} {r : PieceRef} {rest : List PieceRef} {pc : Piece}
  (hq : (s.port p).queue = r :: rest) (hpc : (s.entry r.entry).piece r.second = some pc)
include hq hpc

/-- What the grant of a head piece writes. -/
theorem grantPort_eq :
    grantPort p s =
      { s with
        ports := setRow s.ports p { s.port p with queue := rest, credit := (s.port p).credit - 1 },
        entries := setRow s.entries r.entry ((s.entry r.entry).pieceOut r.second),
        pointer := p + 1,
        indications := s.indications - 1,
        links := { s.links with sentPieces := s.links.sentPieces ++ [pieceMessage (s.entry r.entry) r pc] } } := by
  unfold grantPort
  rw [hq]
  exact sendPiece_some (s := { s.modPort p (fun po => { po with queue := rest, credit := po.credit - 1 }) with
    pointer := p + 1, indications := s.indications - 1 }) hpc

theorem grantPort_port (q : PortId) :
    (grantPort p s).port q = if q = p then { s.port p with queue := rest, credit := (s.port p).credit - 1 }
      else s.port q := by
  rw [grantPort_eq hq hpc]
  exact setRow_get _ _ _ _

theorem grantPort_entry (d : EntryId) :
    (grantPort p s).entry d = if d = r.entry then (s.entry r.entry).pieceOut r.second else s.entry d := by
  rw [grantPort_eq hq hpc]
  exact setRow_get _ _ _ _

end GrantPort

/-- The credits a grant to port p is made from: reloaded where p has none (R144 steps 1 and 2). -/
def credited (p : PortId) (s : State) : State := if (s.port p).credit = 0 then reloadCredits s else s

theorem credited_port (p q : PortId) (s : State) :
    (credited p s).port q =
      { s.port q with credit := if (s.port p).credit = 0 then (s.port q).weight else (s.port q).credit } := by
  unfold credited
  split <;> simp

theorem credited_eq (p : PortId) (s : State) : credited p s = { s with ports := (credited p s).ports } := by
  unfold credited
  split <;> rfl

/-- A grant of port p's head piece is one in the words of R144. -/
theorem grantPort_grantTo {s : State} {p : PortId} {r : PieceRef} {rest : List PieceRef} {pc : Piece}
    (hq : (s.port p).queue = r :: rest) (hpc : (s.entry r.entry).piece r.second = some pc) :
    GrantTo p s (grantPort p (credited p s)) := by
  have hports := fun q => credited_port p q s
  rw [credited_eq] at hports ⊢
  generalize hv : ({ s with ports := (credited p s).ports } : State) = v at hports ⊢
  have hentry : ∀ d, v.entry d = s.entry d := fun d => by
    rw [← hv]
    rfl
  have hq' : (v.port p).queue = r :: rest := by rw [hports, hq]
  have hpc' : (v.entry r.entry).piece r.second = some pc := by rw [hentry, hpc]
  refine ⟨r, rest, pc, hq, hpc, ?_, fun q hne => ?_, ?_, ?_, ?_, fun d hne => ?_, ?_⟩
  · rw [grantPort_port hq' hpc', if_pos rfl, hports]
  · rw [grantPort_port hq' hpc', if_neg hne, hports]
  · rw [grantPort_eq hq' hpc']
  · rw [grantPort_eq hq' hpc', ← hv]
  · rw [grantPort_entry hq' hpc', if_pos rfl, hentry]
    rfl
  · rw [grantPort_entry hq' hpc', if_neg hne, hentry]
  · rw [grantPort_eq hq' hpc', pieceMessage_eq, hentry, ← hv]
    exact ⟨rfl, rfl, rfl, ⟨rfl, rfl⟩, ⟨rfl, rfl, rfl, rfl, rfl⟩, ⟨rfl, rfl, rfl, rfl, rfl, rfl⟩⟩

/-! ## Grants to the only port that has pieces queued (R143, R144) -/

/-- Only port p can have pieces queued, it can be granted, and its queue names pieces that are there. -/
structure OnlyQueue (p : PortId) (s : State) : Prop where
  others : ∀ q, q ≠ p → (s.port q).queue = []
  weight : 1 ≤ (s.port p).weight
  pieces : ∀ r ∈ (s.port p).queue, ((s.entry r.entry).piece r.second).isSome = true

theorem mem_rotationFrom (a p : PortId) : p ∈ rotationFrom a := by
  revert a p
  decide

/-- The only port with pieces queued is the only member of the class, whatever its line says (R143). -/
theorem searchGrant_only {s : State} {p : PortId} (hothers : ∀ q, q ≠ p → (s.port q).queue = [])
    (hq : (s.port p).queue ≠ []) : searchGrant s = if (s.port p).credit = 0 then none else some p := by
  have hmember : ∀ urgent q, memberOf s urgent q = true ↔ s.urg p = urgent ∧ q = p := fun urgent q => by
    by_cases h : q = p
    · subst h
      simp [memberOf, hq]
    · simp [memberOf, hothers q h, h]
  have hclass : grantClass s = s.urg p := by
    rw [Bool.eq_iff_iff, grantClass, List.any_eq_true]
    simp [hmember]
  have htest : ∀ q, (memberOf s (grantClass s) q && decide (0 < (s.port q).credit)) = true
      ↔ q = p ∧ (s.port p).credit ≠ 0 := fun q => by
    rw [Bool.and_eq_true, hmember, hclass, decide_eq_true_eq, Nat.pos_iff_ne_zero]
    constructor
    · rintro ⟨⟨_, rfl⟩, h⟩
      exact ⟨rfl, h⟩
    · rintro ⟨rfl, h⟩
      exact ⟨⟨rfl, rfl⟩, h⟩
  unfold searchGrant
  split
  · next hzero =>
    exact List.find?_eq_none.2 fun q _ h => ((htest q).1 h).2 hzero
  · next hcredit =>
    cases hf : (rotationFrom s.pointer).find?
        fun q => memberOf s (grantClass s) q && decide (0 < (s.port q).credit) with
    | none => exact absurd ((htest p).2 ⟨rfl, hcredit⟩) (List.find?_eq_none.1 hf p (mem_rotationFrom _ _))
    | some q =>
      have hfound := List.find?_some hf
      rw [((htest q).1 hfound).1]

theorem grant_only {s : State} {p : PortId} (h : OnlyQueue p s) (hq : (s.port p).queue ≠ []) :
    grant s = grantPort p (credited p s) := by
  unfold grant credited
  rw [searchGrant_only h.others hq]
  by_cases hzero : (s.port p).credit = 0
  · have hreload : searchGrant (reloadCredits s) = some p := by
      rw [searchGrant_only (fun q hne => by simpa using h.others q hne) (by simpa using hq), if_neg]
      simpa using Nat.ne_of_gt h.weight
    simp only [if_pos hzero, hreload]
  · simp only [if_neg hzero]

theorem OnlyQueue.grantTo {p : PortId} {s : State} (h : OnlyQueue p s) (hq : (s.port p).queue ≠ []) :
    GrantTo p s (grant s) := by
  obtain ⟨r, rest, hq'⟩ := List.exists_cons_of_ne_nil hq
  obtain ⟨pc, hpc⟩ := Option.isSome_iff_exists.1 (h.pieces r (by simp [hq']))
  rw [grant_only h hq]
  exact grantPort_grantTo hq' hpc

theorem OnlyQueue.kept {p : PortId} {s u : State} (h : OnlyQueue p s) (hg : GrantTo p s u) :
    OnlyQueue p u ∧ (s.port p).queue.length = (u.port p).queue.length + 1 ∧ u.indications = s.indications - 1 := by
  obtain ⟨r, rest, pc, hq, _, hport, hports, _, hind, hentry, hentries, _⟩ := hg
  refine ⟨⟨fun q hne => ?_, ?_, fun x hx => ?_⟩, ?_, hind⟩
  · rw [hports q hne]
    exact h.others q hne
  · rw [hport]
    exact h.weight
  · have hold : ((s.entry x.entry).piece x.second).isSome = true := h.pieces x (by
      rw [hport] at hx
      rw [hq]
      exact List.mem_cons_of_mem r hx)
    by_cases hx : x.entry = r.entry
    · rw [hx] at hold ⊢
      rw [hentry]
      exact (Entry.pieceOut_piece_isSome _ r.second _).trans hold
    · rw [hentries _ hx]
      exact hold
  · rw [hport, hq]
    rfl

theorem anyQueued_iff (s : State) : anyQueued s = true ↔ ∃ p, (s.port p).queue ≠ [] := by
  simp [anyQueued]

/-- Each unused indication that finds a piece is a grant to the port (R140). -/
theorem runGrants_only {p : PortId} {s : State} (h : OnlyQueue p s) :
    GrantsTo (min s.indications (s.port p).queue.length) p s (runGrants s) := by
  unfold runGrants
  generalize hfuel : s.indications = fuel
  induction fuel generalizing s with
  | zero =>
    rw [Nat.zero_min]
    rfl
  | succ fuel ih =>
    rw [grantLoop, hfuel]
    by_cases hq : (s.port p).queue = []
    · have hnone : anyQueued s = false := Bool.eq_false_iff.2 fun k => by
        obtain ⟨q, hqq⟩ := (anyQueued_iff s).1 k
        by_cases hqp : q = p
        · exact hqq (hqp ▸ hq)
        · exact hqq (h.others q hqp)
      rw [hnone, hq]
      exact rfl
    · have hg := h.grantTo hq
      obtain ⟨hnext, hlength, hind⟩ := h.kept hg
      rw [(anyQueued_iff s).2 ⟨p, hq⟩, hlength, Nat.succ_min_succ]
      exact ⟨grant s, hg, ih hnext (by rw [hind, hfuel]; rfl)⟩

/-! ## What an accepted request writes (R101, R113, R118, R119, R123) -/

theorem refsOf_eq (e : EntryId) {l : List Piece} (h : l.length ≤ 2) :
    refsOf e l = (List.range l.length).map fun k => ⟨e, k == 1⟩ := by
  rcases l with _ | ⟨a, _ | ⟨b, _ | ⟨c, rest⟩⟩⟩
  · rfl
  · rfl
  · rfl
  · simp at h

theorem newEntry_eq (p : PortId) (r : Request) (d : Decision) :
    newEntry p r d =
      { state := if d.pieces = [] then .doneWaiting else .queued, port := p, id := r.id, tag := r.tag, kind := r.kind,
        length := r.len.toNat + 1, disposition := d.disposition, target := d.target, pieces := d.pieces,
        prepared := d.prepared } := by
  simp [newEntry, reqBeats]

/-- Entry and port of an acceptance. -/
def takeEntry (e : EntryId) (p : PortId) (r : Request) (d : Decision) (s : State) : State :=
  (s.modEntry e fun _ => newEntry p r d).modPort p fun po => po.acceptEntry e d

theorem acceptInto_eq (e : EntryId) (p : PortId) (r : Request) (d : Decision) (s : State) :
    acceptInto e p r d s = raiseReport d.report (raiseTarget r.kind d.target (takeEntry e p r d s)) := rfl

theorem raiseTarget_frame (k : Access) (t : Option Target) (s : State) : RotationFrame s (raiseTarget k t s) := by
  cases t with
  | none => exact RotationFrame.refl s
  | some g => exact modPage_frame s g.page _

theorem raiseReport_frame (rec : Option EventRecord) (s : State) : RotationFrame s (raiseReport rec s) := by
  cases rec with
  | none => exact RotationFrame.refl s
  | some rec => exact raise_frame s rec

theorem raiseReport_pages (rec : Option EventRecord) (s : State) : (raiseReport rec s).pages = s.pages := by
  cases rec with
  | none => rfl
  | some rec => exact raise_pages s rec

theorem raiseReport_streams (rec : Option EventRecord) (s : State) : (raiseReport rec s).streams = s.streams := by
  cases rec with
  | none => rfl
  | some rec => exact raise_streams s rec

section AcceptInto

variable (e : EntryId) (p : PortId) (r : Request) (d : Decision) (s : State)

theorem acceptInto_rotationFrame : RotationFrame (takeEntry e p r d s) (acceptInto e p r d s) :=
  (raiseTarget_frame _ _ _).trans (raiseReport_frame _ _)

theorem acceptInto_entry (x : EntryId) :
    (acceptInto e p r d s).entry x = if x = e then newEntry p r d else s.entry x := by
  rw [State.entry, (acceptInto_rotationFrame e p r d s).entries]
  exact setRow_get _ _ _ _

theorem acceptInto_port (q : PortId) :
    (acceptInto e p r d s).port q = if q = p then (s.port p).acceptEntry e d else s.port q := by
  rw [State.port, (acceptInto_rotationFrame e p r d s).ports]
  exact setRow_get _ _ _ _

theorem acceptInto_streams : (acceptInto e p r d s).streams = s.streams := by
  rw [acceptInto_eq, raiseReport_streams]
  cases d.target <;> rfl

theorem acceptInto_pages : (acceptInto e p r d s).pages = (raiseTarget r.kind d.target s).pages := by
  rw [acceptInto_eq, raiseReport_pages]
  cases d.target <;> rfl

/-- Nothing is reported, and the event queue is as it was. -/
theorem acceptInto_unreported (h : d.report = none) : (acceptInto e p r d s).events = s.events
    ∧ (acceptInto e p r d s).lost = s.lost ∧ (acceptInto e p r d s).attn = s.attn := by
  rw [acceptInto_eq, h]
  cases d.target <;> exact ⟨rfl, rfl, rfl⟩

theorem acceptInto_reported {rec : EventRecord} (h : d.report = some rec) : Raised rec s (acceptInto e p r d s) := by
  rw [acceptInto_eq, h]
  refine (raised_raise _ rec).congr ?_ ?_ ?_ ?_ ?_ rfl rfl rfl <;> cases d.target <;> rfl

end AcceptInto

/-! ## The test of a head request (R101, R122, R123) -/

/-- The lowest-numbered FREE entry is taken when the port has room. -/
theorem acceptEntry_eq {s : State} {p : PortId} {r : Request} {e : EntryId} (hfree : (s.entry e).state = .free)
    (hlow : ∀ e', e' < e → (s.entry e').state ≠ .free) (horder : (s.port p).order.length < 12)
    (hqueue : (s.port p).queue.length + (steer s p r).pieces.length ≤ 16) : acceptEntry s p r = some e := by
  have hroom : portRoom s p (steer s p r).pieces.length = true := by simp [portRoom, horder, hqueue]
  have hfirst : firstFreeEntry s = some e :=
    List.find?_eq_some_iff_getElem.2 ⟨by simp [hfree], e.val, by simp, by simp, fun j hj => by
      simpa using hlow ⟨j, hj.trans e.isLt⟩ hj⟩
  rw [acceptEntry, if_pos hroom, hfirst]

theorem setWaiting_self {p : PortId} {w : Option Request} {s : State} (h : s.links.waiting.get p = w) :
    setWaiting p w s = s := by
  unfold setWaiting
  rw [← h, setRow_self]

theorem acceptHead_accepts {s : State} {p : PortId} {r : Request} {e : EntryId} (he : acceptEntry s p r = some e)
    (hw : s.links.waiting.get p = none) :
    acceptHead p r s = runGrants (present p (acceptInto e p r (steer s p r) s)) := by
  rw [acceptHead, he]
  dsimp only
  rw [setWaiting_self hw]

theorem acceptHead_waits {s : State} {p : PortId} {r : Request} (h : NoRoom s p r) :
    acceptHead p r s = setWaiting p (some r) s := by
  rw [acceptHead, acceptEntry_none h]

theorem setWaiting_setWaiting (p : PortId) (v w : Option Request) (s : State) :
    setWaiting p v (setWaiting p w s) = setWaiting p v s := by
  have hrow : setRow (setRow s.links.waiting p w) p v = setRow s.links.waiting p v :=
    vector_ext_get fun q => by
      rw [setRow_get, setRow_get, setRow_get]
      split <;> rfl
  unfold setWaiting
  rw [hrow]

/-- The test of a head request does not read what stood on its link. -/
theorem acceptHead_setWaiting (p : PortId) (r : Request) (w : Option Request) (s : State) :
    acceptHead p r (setWaiting p w s) = acceptHead p r s := by
  have hentry : acceptEntry (setWaiting p w s) p r = acceptEntry s p r := rfl
  have hsteer : steer (setWaiting p w s) p r = steer s p r := rfl
  simp only [acceptHead, hentry, hsteer, setWaiting_setWaiting]

theorem exec_acceptance {s : State} (p : PortId) (r : Request) (urg : UrgLevels) (hr : s.resetn = true) :
    exec (.acceptance p r urg) s = .next (testWaiting (acceptHead p (headRequest s p r) (seeUrg urg s))) := by
  show Host.Outcome.next (if s.resetn then _ else _) = _
  rw [if_pos hr]

theorem headRequest_none {s : State} {p : PortId} (h : s.links.waiting.get p = none) (r : Request) :
    headRequest s p r = r := by
  rw [headRequest, h]
  rfl

theorem headRequest_some {s : State} {p : PortId} {head : Request} (h : s.links.waiting.get p = some head) (r : Request) :
    headRequest s p r = head := by
  rw [headRequest, h]
  rfl

/-! ## ACCEPTANCE (R101, R113, R118, R119, R122, R123, R129, R140) -/

theorem OnlyQueue.present {p : PortId} {s : State} (h : OnlyQueue p s) : OnlyQueue p (present p s) := by
  obtain ⟨x, hx, _⟩ := present_eq p s
  rw [hx]
  refine ⟨fun q hne => ?_, ?_, fun r hr => ?_⟩
  · rw [modPort_port_other _ hne]
    exact h.others q hne
  · rw [modPort_port_same]
    exact h.weight
  · rw [modPort_port_same] at hr
    exact h.pieces r hr

/-- A request accepted while every queue is empty leaves only its own pieces queued. -/
theorem acceptInto_onlyQueue {e : EntryId} {p : PortId} {r : Request} {d : Decision} {s : State}
    (hempty : ∀ q, (s.port q).queue = []) (hweight : 1 ≤ (s.port p).weight) : OnlyQueue p (acceptInto e p r d s) := by
  refine ⟨fun q hne => ?_, ?_, fun x hx => ?_⟩
  · rw [acceptInto_port, if_neg hne, hempty]
  · rw [acceptInto_port, if_pos rfl]
    exact hweight
  · rw [acceptInto_port, if_pos rfl] at hx
    have hnew : x ∈ (s.port p).queue ++ refsOf e d.pieces := hx
    rw [hempty, List.nil_append, mem_refsOf] at hnew
    obtain ⟨hentry, hpiece⟩ := hnew
    rw [acceptInto_entry, if_pos hentry, Entry.piece_eq]
    exact hpiece

/-- An accepted request with the presentation behind it, before any grant. -/
def accepted (e : EntryId) (p : PortId) (r : Request) (d : Decision) (s : State) : State :=
  present p (acceptInto e p r d s)

section Accepted

variable (e : EntryId) (p : PortId) (r : Request) (d : Decision) (s : State)

theorem accepted_eq : ∃ x, accepted e p r d s = (acceptInto e p r d s).modPort p fun po => { po with presented := x } := by
  obtain ⟨x, hx, _⟩ := present_eq p (acceptInto e p r d s)
  exact ⟨x, hx⟩

theorem accepted_entry (x : EntryId) : (accepted e p r d s).entry x = if x = e then newEntry p r d else s.entry x := by
  obtain ⟨_, h⟩ := accepted_eq e p r d s
  rw [h, modPort_entry, acceptInto_entry]

theorem accepted_otherPorts : OtherPorts p s (accepted e p r d s) := by
  intro q hne
  obtain ⟨_, h⟩ := accepted_eq e p r d s
  rw [h, modPort_port_other _ hne, acceptInto_port, if_neg hne]

theorem accepted_streams : (accepted e p r d s).streams = s.streams := by
  rw [accepted, present_streams, acceptInto_streams]

theorem accepted_pages : (accepted e p r d s).pages = (raiseTarget r.kind d.target s).pages := by
  rw [accepted, present_pages, acceptInto_pages]

/-- The page that the request is directed to counts it, and no other page changes (R113). -/
theorem accepted_counts {g : Target} (h : d.target = some g) :
    (accepted e p r d s).page g.page = (s.page g.page).raiseCount r.kind ∧ OtherPages [g.page] s (accepted e p r d s) := by
  have hpage : ∀ q, (accepted e p r d s).page q = (s.modPage g.page (Page.raiseCount r.kind)).page q := fun q => by
    rw [State.page, accepted_pages, h]
    rfl
  refine ⟨?_, fun q hq => ?_⟩
  · rw [hpage, modPage_page_same]
  · rw [hpage, modPage_page_other _ (by simpa using hq)]

theorem accepted_unreported (h : d.report = none) : (accepted e p r d s).events = s.events
    ∧ (accepted e p r d s).lost = s.lost ∧ (accepted e p r d s).attn = s.attn := by
  obtain ⟨_, hx⟩ := accepted_eq e p r d s
  rw [hx]
  exact acceptInto_unreported e p r d s h

theorem accepted_reported {rec : EventRecord} (h : d.report = some rec) : Raised rec s (accepted e p r d s) := by
  obtain ⟨_, hx⟩ := accepted_eq e p r d s
  rw [hx]
  exact (acceptInto_reported e p r d s h).congr rfl rfl rfl rfl rfl rfl rfl rfl

/-- What an acceptance leaves alone before its grants. -/
theorem accepted_frame : (accepted e p r d s).pointer = s.pointer ∧ (accepted e p r d s).indications = s.indications
    ∧ (accepted e p r d s).datapath = s.datapath ∧ (accepted e p r d s).stray = s.stray
    ∧ (accepted e p r d s).links = s.links ∧ SameSettings s (accepted e p r d s) ∧ SamePort s (accepted e p r d s) := by
  obtain ⟨_, hx⟩ := accepted_eq e p r d s
  have h := acceptInto_rotationFrame e p r d s
  rw [hx]
  exact ⟨h.pointer, h.indications, h.datapath, h.stray, h.links, ⟨h.watermark, h.kindMask⟩,
    ⟨h.response, h.rx, h.awaitRise, h.mdo, h.resetn, h.pending⟩⟩

theorem accepted_presents : Presents (s.port p).presented p (accepted e p r d s) := by
  have hpres := present_presents p (acceptInto e p r d s)
  rwa [acceptInto_port, if_pos rfl] at hpres

variable {d} (hd : d.Proper)
include hd

/-- The port of an accepted request, but for what it presents (R101, R119, R123). -/
theorem accepted_port :
    (accepted e p r d s).port p =
      { s.port p with
        order := (s.port p).order ++ [e],
        queue := (s.port p).queue ++ (List.range d.pieces.length).map (fun k => ⟨e, k == 1⟩),
        accepted := (s.port p).accepted + 1,
        refused := if d.disposition.isRefusal then (s.port p).refused + 1 else (s.port p).refused,
        presented := ((accepted e p r d s).port p).presented } := by
  obtain ⟨x, hx⟩ := accepted_eq e p r d s
  obtain ⟨htwo, _⟩ := hd
  rw [hx, modPort_port_same, acceptInto_port, if_pos rfl, ← refsOf_eq e htwo]
  rfl

/-- The grants behind an acceptance (R140). -/
theorem accepted_grants (h : s.indications = 0 ∨ ((∀ q, (s.port q).queue = []) ∧ 1 ≤ (s.port p).weight)) :
    GrantsTo (min s.indications d.pieces.length) p (accepted e p r d s) (runGrants (accepted e p r d s)) := by
  obtain ⟨_, hind, _⟩ := accepted_frame e p r d s
  rcases h with hzero | ⟨hempty, hweight⟩
  · rw [runGrants, hind, hzero, Nat.zero_min]
    rfl
  · have hlength : ((accepted e p r d s).port p).queue.length = d.pieces.length := by
      rw [accepted_port e p r s hd]
      simp [hempty]
    have honly : OnlyQueue p (accepted e p r d s) := (acceptInto_onlyQueue hempty hweight).present
    have hgrants := runGrants_only honly
    rwa [hind, hlength] at hgrants

end Accepted

/-- Settles O42: an acceptance writes entry, port, count and report, and then the port presents and is granted; without room
only `links.waiting` is written, which the test of a head request does not read. -/
theorem acceptanceTakesAnEntry : Obligations.AcceptanceTakesAnEntry := by
  refine ⟨fun p r urg s d hr hw hd => ⟨fun e hfree hlow horder hqueue hind => ?_, fun hroom => ?_⟩,
    fun p r head urg s t hr hhead hnone hother ht => ?_⟩
  · subst hd
    have hexec := exec_acceptance p r urg hr
    rw [headRequest_none hw] at hexec
    have hproper := steer_proper s p r
    have hentry := acceptEntry_eq (s := seeUrg urg s) hfree hlow horder hqueue
    have hgrants := accepted_grants e p r (seeUrg urg s) hproper hind
    obtain ⟨hpointer, hinds, hdatapath, hstray, hlinks, hsettings, hport⟩ :=
      accepted_frame e p r (steer s p r) (seeUrg urg s)
    refine ⟨accepted e p r (steer s p r) (seeUrg urg s), _, _, hexec, testWaiting_retested _, rfl, ?_, ?_, fun x hne => ?_,
      accepted_port e p r (seeUrg urg s) hproper, accepted_presents e p r _ (seeUrg urg s),
      accepted_otherPorts e p r _ (seeUrg urg s), accepted_streams e p r _ (seeUrg urg s), fun h => ?_, fun g h => ?_,
      accepted_unreported e p r _ (seeUrg urg s), fun rec => accepted_reported e p r _ (seeUrg urg s), hpointer, hinds,
      hdatapath, hstray, hlinks, hsettings, hport⟩
    · rw [acceptHead_accepts hentry hw]
      exact hgrants
    · rw [accepted_entry, if_pos rfl, newEntry_eq]
    · rw [accepted_entry, if_neg hne]
      rfl
    · rw [accepted_pages, h]
      rfl
    · obtain ⟨hcount, hpages⟩ := accepted_counts e p r _ (seeUrg urg s) h
      refine ⟨hcount.trans ?_, hpages⟩
      cases r.kind <;> rfl
  · have hexec := exec_acceptance p r urg hr
    rw [headRequest_none hw] at hexec
    have hwaits : acceptHead p r (seeUrg urg s) = setWaiting p (some r) (seeUrg urg s) :=
      acceptHead_waits (s := seeUrg urg s) hroom
    refine ⟨_, _, hexec, testWaiting_retested _, rfl, ?_⟩
    rw [hwaits]
    exact ⟨setRow_get_same _ _ _, fun q hne => setRow_get_other _ hne _, rfl, rfl, rfl, rfl, ⟨rfl, rfl⟩,
      ⟨rfl, rfl, rfl, rfl, rfl, rfl⟩, ⟨rfl, rfl, rfl, rfl, rfl⟩, ⟨rfl, rfl, rfl, rfl, rfl, rfl⟩⟩
  · have hwaiting : t.links.waiting = setRow s.links.waiting p none := vector_ext_get fun q => by
      rw [setRow_get]
      split
      · next hq => rw [hq, hnone]
      · next hq => exact hother q hq
    rw [hwaiting] at ht
    have hcleared : seeUrg urg t = setWaiting p none (seeUrg urg s) := by
      rw [ht]
      rfl
    have hrt : t.resetn = true := by
      rw [ht]
      exact hr
    have hsame : exec (.acceptance p head urg) t = .next (testWaiting (acceptHead p head (seeUrg urg s))) := by
      rw [exec_acceptance p head urg hrt, headRequest_none hnone, hcleared, acceptHead_setWaiting]
    exact ⟨_, by rw [exec_acceptance p r urg hr, headRequest_some hhead], hsame⟩

end Sys2Proof.Machine

/-! PROOFS. The order of responses: every event keeps what a port presents in transaction ID order (O57), and what a port
presents is its oldest deliverable entry (O51). -/

namespace Sys2Proof.Machine

/-! ## What the order of responses reads of a state (R120, R128, R129) -/

/-- The acceptance order of port p holds non-FREE entries of that port, and what p presents stands in it, deliverable behind
the entries before it. -/
structure PortOrdered (s : State) (p : PortId) : Prop where
  owned : ∀ e ∈ (s.port p).order, (s.entry e).state ≠ .free ∧ (s.entry e).port = p
  presented : ∀ e, (s.port p).presented = some e →
    e ∈ (s.port p).order ∧ Deliverable s ((s.port p).order.takeWhile (· != e)) e

/-- Every port presents in order. This is all that the law of the order needs of the table, so that the events keep it by
themselves. -/
def ResponsesOrdered (s : State) : Prop := ∀ p : PortId, PortOrdered s p

theorem responsesOrdered_of_laws {s : State} (ht : TableLaw s) (ho : OrderLaw s) : ResponsesOrdered s := by
  obtain ⟨_, horders, _, hpresented⟩ := tableLaw_iff.1 ht
  intro p
  obtain ⟨_, _, hmem⟩ := horders p
  exact ⟨fun e he => (hmem e).1 he, fun e he => ⟨(hpresented p e he).1, ho p e he⟩⟩

theorem ResponsesOrdered.orderLaw {s : State} (h : ResponsesOrdered s) : OrderLaw s :=
  fun p e he => ((h p).presented e he).2

/-- Entry b stands in the acceptance order where a stood: it has a's port and transaction ID, it is not FREE and still
DONE-WAITING where a was, and undelivered only where a was. -/
structure Entry.Follows (a b : Entry) : Prop where
  id : b.id = a.id
  port : b.port = a.port
  taken : a.state ≠ .free → b.state ≠ .free
  done : a.state = .doneWaiting → b.state = .doneWaiting
  undelivered : b.undelivered = true → a.undelivered = true

theorem Entry.Follows.refl (a : Entry) : a.Follows a := ⟨rfl, rfl, fun h => h, fun h => h, fun h => h⟩

/-- An entry that keeps its state, its port and its transaction ID. -/
theorem Entry.Follows.of_state {a b : Entry} (hid : b.id = a.id) (hport : b.port = a.port) (hs : b.state = a.state) :
    a.Follows b := by
  refine ⟨hid, hport, ?_, ?_, ?_⟩ <;> simp [Entry.undelivered, hs]

/-- An entry that was waiting for its pieces and goes on waiting, or has become DONE-WAITING. -/
theorem Entry.Follows.of_waiting {a b : Entry} (hid : b.id = a.id) (hport : b.port = a.port)
    (ha : a.state = .queued ∨ a.state = .issued) (hb : b.state = .issued ∨ b.state = .doneWaiting) : a.Follows b := by
  refine ⟨hid, hport, fun _ => ?_, fun hd => ?_, fun _ => ?_⟩
  · rcases hb with k | k <;> simp [k]
  · rcases ha with k | k <;> simp [k] at hd
  · rcases ha with k | k <;> simp [Entry.undelivered, k]

/-- What is deliverable stays so behind fewer entries that follow the older ones. -/
theorem Deliverable.follows {s t : State} {older older' : List EntryId} {e : EntryId} (h : Deliverable s older e)
    (he : (s.entry e).Follows (t.entry e)) (hsub : ∀ d ∈ older', d ∈ older ∧ (s.entry d).Follows (t.entry d)) :
    Deliverable t older' e := by
  obtain ⟨hdone, holder⟩ := h
  refine ⟨he.done hdone, fun d hd hu => ?_⟩
  obtain ⟨hmem, hfollows⟩ := hsub d hd
  rw [hfollows.id, he.id]
  exact holder d hmem (hfollows.undelivered hu)

/-- Taking entries other than e out of an order takes none but them from those before e. -/
theorem mem_takeWhile_filter {l : List EntryId} {keep : EntryId → Bool} {e d : EntryId} (he : keep e = true)
    (hd : d ∈ (l.filter keep).takeWhile (· != e)) : d ∈ l.takeWhile (· != e) := by
  induction l with
  | nil => exact hd
  | cons a l ih =>
    by_cases ha : a = e
    · subst ha
      simp [he] at hd
    · rw [List.takeWhile_cons_of_pos (by simpa using ha), List.mem_cons]
      by_cases hk : keep a = true
      · rw [List.filter_cons_of_pos hk, List.takeWhile_cons_of_pos (by simpa using ha), List.mem_cons] at hd
        exact hd.imp_right ih
      · rw [List.filter_cons_of_neg hk] at hd
        exact Or.inr (ih hd)

/-- A port that loses entries from its order, but not the one it presents. -/
theorem PortOrdered.filter {s t : State} {p : PortId} {keep : EntryId → Bool} (h : PortOrdered s p)
    (horder : (t.port p).order = (s.port p).order.filter keep) (hpres : (t.port p).presented = (s.port p).presented)
    (hkept : ∀ e, (s.port p).presented = some e → keep e = true)
    (hfollows : ∀ e ∈ (s.port p).order, keep e = true → (s.entry e).Follows (t.entry e)) : PortOrdered t p := by
  have hmem : ∀ e ∈ (t.port p).order, e ∈ (s.port p).order ∧ (s.entry e).Follows (t.entry e) := fun e he => by
    rw [horder, List.mem_filter] at he
    exact ⟨he.1, hfollows e he.1 he.2⟩
  refine ⟨fun e he => ?_, fun e he => ?_⟩
  · obtain ⟨hm, hf⟩ := hmem e he
    obtain ⟨hfree, hport⟩ := h.owned e hm
    exact ⟨hf.taken hfree, hf.port.trans hport⟩
  · rw [hpres] at he
    obtain ⟨hm, hdel⟩ := h.presented e he
    have hin : e ∈ (t.port p).order := by
      rw [horder]
      exact List.mem_filter.2 ⟨hm, hkept e he⟩
    refine ⟨hin, hdel.follows (hmem e hin).2 fun d hd => ⟨?_, (hmem d (List.takeWhile_sublist _ |>.subset hd)).2⟩⟩
    rw [horder] at hd
    exact mem_takeWhile_filter (hkept e he) hd

/-- A port whose order and whose presented response are as they were. -/
theorem PortOrdered.follow {s t : State} {p : PortId} (h : PortOrdered s p)
    (horder : (t.port p).order = (s.port p).order) (hpres : (t.port p).presented = (s.port p).presented)
    (hfollows : ∀ e ∈ (s.port p).order, (s.entry e).Follows (t.entry e)) : PortOrdered t p :=
  h.filter (keep := fun _ => true) (by rw [horder, List.filter_true]) hpres (fun _ _ => rfl)
    fun e he _ => hfollows e he

theorem ResponsesOrdered.follow {s t : State} (h : ResponsesOrdered s)
    (hports : ∀ p, (t.port p).order = (s.port p).order ∧ (t.port p).presented = (s.port p).presented)
    (hfollows : ∀ e, (s.entry e).Follows (t.entry e)) : ResponsesOrdered t := fun p =>
  (h p).follow (hports p).1 (hports p).2 fun e _ => hfollows e

theorem ResponsesOrdered.congr {s t : State} (h : ResponsesOrdered s) (he : t.entries = s.entries)
    (hp : t.ports = s.ports) : ResponsesOrdered t :=
  h.follow (fun p => by simp [State.port, hp]) fun e => by
    rw [State.entry, State.entry, he]
    exact Entry.Follows.refl _

/-- The rotation controller reads and writes nothing of it. -/
theorem ResponsesOrdered.rotated {s t : State} (h : ResponsesOrdered s) (k : RotationFrame s t) : ResponsesOrdered t :=
  h.congr k.entries k.ports

theorem ResponsesOrdered.modPort {s : State} {p : PortId} {f : Port → Port} (h : ResponsesOrdered s)
    (hf : ∀ po, (f po).order = po.order ∧ (f po).presented = po.presented) : ResponsesOrdered (s.modPort p f) := by
  refine h.follow (fun q => ?_) fun e => Entry.Follows.refl _
  rw [modPort_port]
  split
  · next hq =>
    subst hq
    exact hf _
  · exact ⟨rfl, rfl⟩

theorem ResponsesOrdered.modEntry {s : State} {e : EntryId} {f : Entry → Entry} (h : ResponsesOrdered s)
    (hf : (s.entry e).Follows (f (s.entry e))) : ResponsesOrdered (s.modEntry e f) := by
  refine h.follow (fun _ => ⟨rfl, rfl⟩) fun d => ?_
  rw [modEntry_entry]
  split
  · next hd =>
    subst hd
    exact hf
  · exact Entry.Follows.refl _

/-! ## Presentation and the end of a quiesce -/

/-- Settles O51: the search of the model goes through the acceptance order from its oldest entry. -/
theorem portPresentsTheOldestDeliverable : Obligations.PortPresentsTheOldestDeliverable := by
  intro p s
  obtain ⟨x, hx, hsome, hnone⟩ := present_eq p s
  rw [hx, modPort_port_same]
  refine ⟨fun h => ?_, fun h e => ?_⟩
  · rw [hsome h]
  · rw [← firstDeliverable_oldest, ← hnone h]

theorem present_ordered {s : State} (p : PortId) (h : ResponsesOrdered s) : ResponsesOrdered (present p s) := by
  rcases present_cases p s with ⟨_, _, e⟩ | ⟨_, e⟩ <;> rw [e]
  · exact h
  intro q
  by_cases hq : q = p
  · subst hq
    refine ⟨?_, fun e he => ?_⟩ <;> rw [modPort_port_same] at *
    · exact (h q).owned
    · obtain ⟨older, younger, horder, hdel, _⟩ := firstDeliverable_oldest.1 he
      refine ⟨(firstDeliverable_mem he).1, hdel.follows (Entry.Follows.refl _) fun d hd => ⟨?_, Entry.Follows.refl _⟩⟩
      dsimp only at hd
      rw [horder, List.takeWhile_append] at hd
      split at hd
      · simpa using hd
      · exact (List.takeWhile_sublist _).subset hd
  · refine (h q).follow ?_ ?_ fun e _ => Entry.Follows.refl _ <;> rw [modPort_port_other _ hq]

theorem endQuiesce_tables (s : State) : (endQuiesce s).entries = s.entries ∧ (endQuiesce s).ports = s.ports := by
  unfold endQuiesce
  split
  · exact ⟨raise_entries _ _, raise_ports _ _⟩
  · exact ⟨rfl, rfl⟩

theorem endQuiesce_ordered {s : State} (h : ResponsesOrdered s) : ResponsesOrdered (endQuiesce s) := by
  obtain ⟨he, hp⟩ := endQuiesce_tables s
  exact h.congr he hp

/-! ## Grants (R124, R140) -/

theorem Entry.pieceOut_follows (en : Entry) (second : Bool) : en.Follows (en.pieceOut second) := by
  by_cases hs : en.state = .queued
  · exact Entry.Follows.of_waiting rfl rfl (Or.inl hs) (Or.inl (if_pos hs))
  · exact Entry.Follows.of_state rfl rfl (if_neg hs)

theorem sendPiece_ordered {s : State} (r : PieceRef) (h : ResponsesOrdered s) : ResponsesOrdered (sendPiece r s) := by
  cases hpc : (s.entry r.entry).piece r.second with
  | none =>
    unfold sendPiece
    rw [hpc]
    exact h
  | some pc =>
    rw [sendPiece_some hpc]
    exact (h.modEntry (f := fun en => en.pieceOut r.second) (Entry.pieceOut_follows _ _)).congr rfl rfl

theorem grantPort_ordered {s : State} (p : PortId) (h : ResponsesOrdered s) : ResponsesOrdered (grantPort p s) := by
  unfold grantPort
  split
  · exact h
  · next r rest _ =>
    have hspent : ResponsesOrdered (s.modPort p fun po => { po with queue := rest, credit := po.credit - 1 }) :=
      h.modPort fun _ => ⟨rfl, rfl⟩
    exact sendPiece_ordered r (hspent.congr rfl rfl)

theorem reloadCredits_ordered {s : State} (h : ResponsesOrdered s) : ResponsesOrdered (reloadCredits s) :=
  h.follow (fun p => by simp) fun _ => Entry.Follows.refl _

theorem runGrants_ordered {s : State} (h : ResponsesOrdered s) : ResponsesOrdered (runGrants s) := by
  have hgrant : ∀ u : State, ResponsesOrdered u → ResponsesOrdered (grant u) := fun u hu => by
    rcases grant_cases u with ⟨p, _, e⟩ | ⟨_, p, _, e⟩ | ⟨_, _, e⟩ <;> rw [e]
    · exact grantPort_ordered p hu
    · exact grantPort_ordered p (reloadCredits_ordered hu)
    · exact reloadCredits_ordered hu
  unfold runGrants
  generalize s.indications = fuel
  induction fuel generalizing s with
  | zero => exact h
  | succ fuel ih =>
    unfold grantLoop
    split
    · exact ih (hgrant s h)
    · exact h

/-! ## Acceptance and the re-test (R101, R122, R123) -/

/-- The entry of an accepted request was FREE, so it stood in no order, and it stands behind all others of its port. -/
theorem acceptInto_ordered {s : State} {e : EntryId} {p : PortId} (r : Request) (d : Decision) (h : ResponsesOrdered s)
    (hfree : (s.entry e).state = .free) : ResponsesOrdered (acceptInto e p r d s) := by
  intro q
  have hold : ∀ x ∈ (s.port q).order, (acceptInto e p r d s).entry x = s.entry x := fun x hx => by
    rw [acceptInto_entry, if_neg]
    rintro rfl
    exact ((h q).owned x hx).1 hfree
  have hfollows : ∀ x ∈ (s.port q).order, (s.entry x).Follows ((acceptInto e p r d s).entry x) := fun x hx => by
    rw [hold x hx]
    exact Entry.Follows.refl _
  by_cases hq : q = p
  · subst hq
    have hport : (acceptInto e q r d s).port q = (s.port q).acceptEntry e d := by rw [acceptInto_port, if_pos rfl]
    have horder : ((acceptInto e q r d s).port q).order = (s.port q).order ++ [e] := by
      rw [hport]
      rfl
    refine ⟨fun x hx => ?_, fun x hx => ?_⟩
    · rw [horder, List.mem_append, List.mem_singleton] at hx
      rcases hx with hx | rfl
      · rw [hold x hx]
        exact (h q).owned x hx
      · rw [acceptInto_entry, if_pos rfl]
        exact ⟨newEntry_state q r d, rfl⟩
    · rw [hport] at hx
      obtain ⟨hm, hdel⟩ := (h q).presented x hx
      have hbefore : ((s.port q).order ++ [e]).takeWhile (· != x) = (s.port q).order.takeWhile (· != x) := by
        rw [List.takeWhile_append, if_neg]
        intro hall
        have hself := (List.takeWhile_sublist (· != x) (l := (s.port q).order)).eq_of_length hall
        rw [← hself] at hm
        simpa using List.mem_takeWhile_imp hm
      rw [horder, hbefore]
      exact ⟨List.mem_append_left _ hm, hdel.follows (hfollows x hm) fun d hd =>
        ⟨hd, hfollows d ((List.takeWhile_sublist _).subset hd)⟩⟩
  · refine (h q).follow ?_ ?_ hfollows <;> rw [acceptInto_port, if_neg hq]

theorem acceptHead_ordered {s : State} (p : PortId) (r : Request) (h : ResponsesOrdered s) :
    ResponsesOrdered (acceptHead p r s) := by
  unfold acceptHead
  cases he : acceptEntry s p r with
  | none => exact h.congr rfl rfl
  | some e =>
    have hset : ResponsesOrdered (setWaiting p none s) := h.congr rfl rfl
    exact runGrants_ordered (present_ordered p (acceptInto_ordered r _ hset (acceptEntry_some he).1))

theorem testWaiting_ordered {s : State} (h : ResponsesOrdered s) : ResponsesOrdered (testWaiting s) := by
  have hretested : ∀ u v, Retested u v → ResponsesOrdered u → ResponsesOrdered v := fun u v k => by
    induction k with
    | done => exact id
    | accept _ _ p r _ _ _ ih => exact fun hu => ih (acceptHead_ordered p r hu)
  exact hretested _ _ (testWaiting_retested s) h

/-! ## Completion (R126, R127, R132) -/

/-- An entry that no port presents may become FREE. -/
theorem freeEntry_ordered {s : State} {e : EntryId} (h : ResponsesOrdered s)
    (hpres : ∀ p, (s.port p).presented ≠ some e) : ResponsesOrdered (freeEntry e s) := by
  intro q
  have hfollows : ∀ x, (x != e) = true → (s.entry x).Follows ((freeEntry e s).entry x) := fun x hx => by
    rw [freeEntry_entry, if_neg (by simpa using hx)]
    exact Entry.Follows.refl _
  by_cases hq : q = (s.entry e).port
  · refine (h q).filter (keep := (· != e)) ?_ ?_ (fun x hx => ?_) fun x _ hx => hfollows x hx
    · rw [freeEntry_port, if_pos hq]
    · rw [freeEntry_port, if_pos hq]
    · rw [bne_iff_ne]
      rintro rfl
      exact hpres q hx
  · refine (h q).follow ?_ ?_ fun x hx => hfollows x ?_
    · rw [freeEntry_port, if_neg hq]
    · rw [freeEntry_port, if_neg hq]
    · rw [bne_iff_ne]
      rintro rfl
      exact hq ((h q).owned x hx).2.symm

theorem lowerTarget_ordered {s : State} (en : Entry) (h : ResponsesOrdered s) : ResponsesOrdered (lowerTarget en s) := by
  unfold lowerTarget
  cases en.target with
  | none => exact h
  | some t => exact h.rotated (lowerCount_frame _ _ _)

theorem settleDone_ordered {s : State} (e : EntryId) (h : ResponsesOrdered s) : ResponsesOrdered (settleDone e s) := by
  unfold settleDone
  split
  · exact h
  unfold settleEntry
  dsimp only
  cases hs : (s.entry e).state with
  | free => exact h
  | queued => exact h
  | issued =>
    exact lowerTarget_ordered _
      (h.modEntry (f := Entry.finish) (Entry.Follows.of_waiting rfl rfl (Or.inr hs) (Or.inr rfl)))
  | doneWaiting => exact lowerTarget_ordered _ h
  | orphaned =>
    refine lowerTarget_ordered _ (freeEntry_ordered h fun p hp => ?_)
    obtain ⟨_, hdone, _⟩ := (h p).presented e hp
    rw [hs] at hdone
    cases hdone

theorem pieceReported_ordered {s : State} (en : Entry) (pc : Piece) (c : Completion) (h : ResponsesOrdered s) :
    ResponsesOrdered (pieceReported en pc c s) := by
  have hcounted : ResponsesOrdered (s.modPort en.port fun po => { po with faults := po.faults + 1 }) :=
    h.modPort fun _ => ⟨rfl, rfl⟩
  have hraised := hcounted.rotated (raise_frame _ (faultRecord en pc))
  unfold pieceReported
  split
  · exact h
  · unfold failPiece reportDamage
    split
    · exact hraised.rotated (modPage_frame _ _ _)
    · exact hraised

theorem complete_ordered {s : State} (c : Completion) (h : ResponsesOrdered s) : ResponsesOrdered (complete c s) := by
  unfold complete
  cases outstandingPiece s c with
  | none => exact h.congr rfl rfl
  | some x =>
    dsimp only
    rw [completePiece_eq]
    refine testWaiting_ordered (present_ordered _ (endQuiesce_ordered (settleDone_ordered _ ?_)))
    refine (pieceReported_ordered _ _ c h).modEntry ?_
    rw [Entry.modPiece_eq]
    exact Entry.Follows.of_state rfl rfl rfl

/-! ## Delivery (R129, R132) -/

theorem modPort_freeEntry {e : EntryId} {p : PortId} {s : State} (hport : (s.entry e).port = p) :
    (freeEntry e s).modPort p (fun po => { po with presented := none })
      = freeEntry e (s.modPort p fun po => { po with presented := none }) := by
  subst hport
  simp [freeEntry, State.modPort, State.modEntry, State.port, State.entry]

/-- Once its response has gone out, an entry is presented nowhere, and is ORPHANED or FREE. -/
theorem retireEntry_ordered {s : State} {p : PortId} {e : EntryId} (h : ResponsesOrdered s)
    (he : (s.port p).presented = some e) :
    ResponsesOrdered ((retireEntry e s).modPort p fun po => { po with presented := none }) := by
  obtain ⟨hm, hdone, _⟩ := (h p).presented e he
  have hwithdrawn : ResponsesOrdered (s.modPort p fun po => { po with presented := none }) := fun q => by
    by_cases hq : q = p
    · subst hq
      refine ⟨?_, fun x hx => ?_⟩ <;> rw [modPort_port_same] at *
      · exact (h q).owned
      · cases hx
    · refine (h q).follow ?_ ?_ fun _ _ => Entry.Follows.refl _ <;> rw [modPort_port_other _ hq]
  have hpres : ∀ q, ((s.modPort p fun po => { po with presented := none }).port q).presented ≠ some e := fun q hq => by
    rw [modPort_port] at hq
    split at hq
    · cases hq
    · next hne =>
      obtain ⟨hmq, _⟩ := (h q).presented e hq
      exact hne (((h q).owned e hmq).2.symm.trans ((h p).owned e hm).2)
  unfold retireEntry
  split
  · intro q
    have hport : ∀ (f : Entry → Entry), ((s.modEntry e f).modPort p fun po => { po with presented := none }).port q
        = (s.modPort p fun po => { po with presented := none }).port q := fun f => by
      rw [modPort_port, modPort_port]
      rfl
    refine ⟨fun x hx => ?_, fun x hx => ?_⟩
    · rw [hport] at hx
      rw [modPort_entry, modEntry_entry]
      split
      · next hxe =>
        subst hxe
        exact ⟨fun k => (by cases k), ((hwithdrawn q).owned x hx).2⟩
      · exact (hwithdrawn q).owned x hx
    · rw [hport] at hx ⊢
      obtain ⟨hmx, hdx, holder⟩ := (hwithdrawn q).presented x hx
      have hxe : x ≠ e := by
        rintro rfl
        exact hpres q hx
      refine ⟨hmx, ?_, fun d hd hu => ?_⟩
      · rw [modPort_entry, modEntry_entry_other _ hxe]
        exact hdx
      · rw [modPort_entry, modEntry_entry] at hu ⊢
        rw [modPort_entry, modEntry_entry_other _ hxe]
        split at hu
        · cases hu
        · next hde =>
          rw [if_neg hde]
          exact holder d hd hu
  · rw [modPort_freeEntry ((h p).owned e hm).2]
    exact freeEntry_ordered hwithdrawn hpres

theorem deliver_ordered {s : State} (p : PortId) (h : ResponsesOrdered s) : ResponsesOrdered (deliver p s) := by
  unfold deliver
  cases he : (s.port p).presented with
  | none => exact h
  | some e =>
    have hsent : (sendResponse p e s).entries = s.entries ∧ (sendResponse p e s).ports = s.ports := by
      unfold sendResponse
      split <;> exact ⟨rfl, rfl⟩
    refine testWaiting_ordered (present_ordered p (endQuiesce_ordered (retireEntry_ordered (h.congr hsent.1 hsent.2) ?_)))
    rw [State.port, hsent.2]
    exact he

/-! ## Commands and resets (R130, R131, R179) -/

section Commands

variable {s : State} (h : ResponsesOrdered s)
include h

theorem frameEnd_ordered {bytes : List Byte} {command : State → Answer}
    (hc : ∀ u, ResponsesOrdered u → ResponsesOrdered (command u).state) : ResponsesOrdered (frameEnd bytes command s) := by
  unfold frameEnd
  split
  · exact (hc (shiftFrame bytes s) (h.congr rfl rfl)).congr rfl rfl
  · exact h

theorem steeringFrameEnd_ordered {bytes : List Byte} {command : State → Answer}
    (hc : ∀ u, ResponsesOrdered u → ResponsesOrdered (command u).state) :
    ResponsesOrdered (steeringFrameEnd bytes command s) := by
  have ha : ResponsesOrdered (answerFrame bytes command s) :=
    (hc (shiftFrame bytes s) (h.congr rfl rfl)).congr rfl rfl
  unfold steeringFrameEnd
  split
  · split
    · exact testWaiting_ordered ha
    · exact ha
  · exact h

theorem cmdSetStream_ordered (a : SetStreamArgs) : ResponsesOrdered (cmdSetStream a s).state := by
  rcases cmdSetStream_state a s with e | ⟨_, _, _, _, e⟩ <;> rw [e]
  · exact h
  · exact h.congr rfl rfl

theorem cmdClearStream_ordered (b : Byte) : ResponsesOrdered (cmdClearStream b s).state := by
  rcases cmdClearStream_state b s with e | ⟨_, _, e⟩ <;> rw [e]
  · exact h
  · exact h.congr rfl rfl

theorem cmdSetConsumer_ordered (a : SetConsumerArgs) : ResponsesOrdered (cmdSetConsumer a s).state := by
  rcases cmdSetConsumer_state a s with e | ⟨_, _, _, e | ⟨_, e⟩⟩ <;> rw [e]
  · exact h
  · exact h.congr rfl rfl
  · exact h.congr rfl rfl

theorem cmdAssignPage_ordered (a : AssignPageArgs) : ResponsesOrdered (cmdAssignPage a s).state := by
  rcases cmdAssignPage_state a s with e | ⟨_, _, _, _, _, _, _, e⟩ <;> rw [e]
  · exact h
  · exact h.congr rfl rfl

theorem cmdUnassignPage_ordered (b : Byte) : ResponsesOrdered (cmdUnassignPage b s).state := by
  rcases cmdUnassignPage_state b s with e | ⟨_, _, _, _, _, e⟩ <;> rw [e]
  · exact h
  · exact h.congr rfl rfl

theorem cmdStartStream_ordered (b : Byte) : ResponsesOrdered (cmdStartStream b s).state := by
  rcases cmdStartStream_state b s with e | ⟨_, _, _, _, _, _, _, e⟩ <;> rw [e]
  · exact h
  · exact h.rotated (startOn_frame _ _ s)

theorem cmdStopStream_ordered (b : Byte) : ResponsesOrdered (cmdStopStream b s).state := by
  unfold cmdStopStream
  split
  · exact h
  · split
    case h_4 => exact h.rotated (stopRunning_frame _ s)
    all_goals exact h

theorem cmdFreeze_ordered (b t o : Byte) : ResponsesOrdered (cmdFreeze b t o s).state := by
  unfold cmdFreeze
  split
  · next n target v _ _ _ =>
    split
    · exact h
    · cases target <;> exact h.congr rfl rfl
  · exact h

/-- New weights and credits are no part of the order. -/
theorem cmdSetArbiter_ordered (w0 w1 w2 w3 : Byte) : ResponsesOrdered (cmdSetArbiter w0 w1 w2 w3 s).state := by
  unfold cmdSetArbiter
  split
  · refine h.follow (fun p => ?_) fun _ => Entry.Follows.refl _
    simp [Answer.done, State.port, Port.weighted]
  · exact h

theorem cmdSetEvents_ordered (w : Byte) (m : Word16) : ResponsesOrdered (cmdSetEvents w m s).state := by
  unfold cmdSetEvents
  split
  · exact h.congr rfl rfl
  · exact h

theorem cmdPopEvents_ordered (k : Byte) : ResponsesOrdered (cmdPopEvents k s).state := by
  unfold cmdPopEvents
  split
  · exact h.congr rfl rfl
  · exact h

theorem cmdReadStream_ordered (b : Byte) : ResponsesOrdered (cmdReadStream b s).state := by
  unfold cmdReadStream
  split <;> exact h

theorem cmdReadPage_ordered (b : Byte) : ResponsesOrdered (cmdReadPage b s).state := by
  unfold cmdReadPage
  split <;> exact h

theorem cmdReadCounters_ordered (g n x c : Byte) : ResponsesOrdered (cmdReadCounters g n x c s).state := by
  have hclear : ∀ g, ResponsesOrdered (clearGroup g s) := fun g => by
    cases g with
    | stream _ => exact h.congr rfl rfl
    | slot _ _ => exact h.congr rfl rfl
    | port p =>
      exact h.modPort (p := p) (f := fun po => { po with accepted := 0, refused := 0, faults := 0 }) fun _ => ⟨rfl, rfl⟩
    | device => exact h.congr rfl rfl
  unfold cmdReadCounters
  split
  · next g c _ _ =>
    cases c
    · exact h
    · exact hclear g
  · exact h

/-- A datapath reset withdraws what the ports present, and leaves every order. -/
theorem resetTables_ordered : ResponsesOrdered (resetTables s) := by
  intro p
  refine ⟨fun e he => ?_, fun e he => ?_⟩ <;> rw [resetTables_port] at he
  · obtain ⟨hfree, hport⟩ := (h p).owned e he
    rw [resetTables_entry]
    by_cases hu : (s.entry e).undelivered = true
    · rw [Entry.afterReset_of_undelivered hu]
      exact ⟨fun k => (by cases k), hport⟩
    · rw [Entry.afterReset_of_delivered hu]
      exact ⟨hfree, hport⟩
  · cases he

theorem cmdDatapathReset_ordered (b : Byte) : ResponsesOrdered (cmdDatapathReset b s).state := by
  have hpresented : ResponsesOrdered (presentAll (resetTables s)) :=
    present_ordered 3 (present_ordered 2 (present_ordered 1 (present_ordered 0 (resetTables_ordered h))))
  unfold cmdDatapathReset
  split
  · show ResponsesOrdered (setQuiescing (presentAll (resetTables s)))
    unfold setQuiescing
    split
    · exact hpresented.congr rfl rfl
    · exact hpresented.congr (raise_entries _ _) (raise_ports _ _)
  · exact h

/-! ## Every event -/

theorem boundary_ordered (n : StreamId) : ResponsesOrdered (boundary n s) := by
  unfold boundary
  split
  · exact testWaiting_ordered (h.rotated (takenBoundary_frame n s))
  · exact h

theorem take_ordered (n : StreamId) (x : SlotId) : ResponsesOrdered (take n x s) := by
  unfold take
  split
  · split
    · exact h.rotated (modSlot_frame s n x _)
    · cases candidate s n x with
      | none => exact h.rotated (repeatTake_frame n x s)
      | some c => exact testWaiting_ordered (h.rotated (successfulTake_frame n x c s))
  · exact h

theorem exec_ordered {i : Instr} {t : State} (e : exec i s = .next t) : ResponsesOrdered t := by
  have whenHigh : ∀ u : State, ResponsesOrdered u → ResponsesOrdered (if s.resetn then u else s) := fun u hu => by
    split
    · exact hu
    · exact h
  cases i <;> cases e
  case boundaryEvent n => exact whenHigh _ (boundary_ordered h n)
  case takeEvent n x => exact whenHigh _ (take_ordered h n x)
  case acceptance p r urg =>
    split
    · exact testWaiting_ordered (acceptHead_ordered p _ (h.congr rfl rfl))
    · exact h.congr rfl rfl
  case indication urg => exact whenHigh _ (testWaiting_ordered (runGrants_ordered (h.congr rfl rfl)))
  case downstreamCompletion c => exact whenHigh _ (complete_ordered c h)
  case delivery p => exact whenHigh _ (deliver_ordered p h)
  case nop f => exact frameEnd_ordered h fun _ => id
  case setStream a f => exact steeringFrameEnd_ordered h fun _ hu => cmdSetStream_ordered hu a
  case clearStream b f => exact steeringFrameEnd_ordered h fun _ hu => cmdClearStream_ordered hu b
  case setConsumer a f => exact steeringFrameEnd_ordered h fun _ hu => cmdSetConsumer_ordered hu a
  case assignPage a f => exact steeringFrameEnd_ordered h fun _ hu => cmdAssignPage_ordered hu a
  case unassignPage b f => exact steeringFrameEnd_ordered h fun _ hu => cmdUnassignPage_ordered hu b
  case startStream b f => exact steeringFrameEnd_ordered h fun _ hu => cmdStartStream_ordered hu b
  case stopStream b f => exact steeringFrameEnd_ordered h fun _ hu => cmdStopStream_ordered hu b
  case freeze b t o f => exact frameEnd_ordered h fun _ hu => cmdFreeze_ordered hu b t o
  case setArbiter w0 w1 w2 w3 f => exact frameEnd_ordered h fun _ hu => cmdSetArbiter_ordered hu w0 w1 w2 w3
  case setEvents w m f => exact frameEnd_ordered h fun _ hu => cmdSetEvents_ordered hu w m
  case popEvents k f => exact frameEnd_ordered h fun _ hu => cmdPopEvents_ordered hu k
  case readStream b f => exact frameEnd_ordered h fun _ hu => cmdReadStream_ordered hu b
  case readPage b f => exact frameEnd_ordered h fun _ hu => cmdReadPage_ordered hu b
  case readCounters g n x c f => exact frameEnd_ordered h fun _ hu => cmdReadCounters_ordered hu g n x c
  case datapathReset b f => exact steeringFrameEnd_ordered h fun _ hu => cmdDatapathReset_ordered hu b
  case unknownCommand c f => exact frameEnd_ordered h fun _ => id
  case discardedFrame bits =>
    split
    · exact h.congr rfl rfl
    · exact h
  case pinReset =>
    have hreset : ResponsesOrdered State.reset := responsesOrdered_of_laws reset_table resetIsSafe.2.1
    exact hreset.congr rfl rfl
  case resetnRise low =>
    split
    · exact h
    · exact testWaiting_ordered (h.congr rfl rfl)
  case shortFrame c f => exact frameEnd_ordered h fun _ => id
  case chipSelectRiseAfterPinReset =>
    split
    · exact h.congr rfl rfl
    · exact h

end Commands

/-- Settles O57: the order of responses with what it needs of the table is kept by every event. -/
theorem orderLawKept : Obligations.OrderLawKept := by
  intro s t htable horder hstep
  have h := responsesOrdered_of_laws htable horder
  rcases step_cases hstep with rfl | ⟨i, rest, hexec⟩
  · exact horder
  · exact (exec_ordered (s := { s with pending := rest }) (h.congr rfl rfl) hexec).orderLaw

end Sys2Proof.Machine

/-! PROOFS. Stray completions (O45), and deliveries with the end of a quiesce (O50). -/

namespace Sys2Proof.Machine

/-! ## Stray completions (R125) -/

theorem refOfTag_eq_some {t : BitVec 7} {r : PieceRef} (h : refOfTag t = some r) :
    2 * r.entry.val + r.second.toNat = t.toNat := by
  unfold refOfTag at h
  split at h
  · cases h
    have hsecond : (t.toNat % 2 == 1).toNat = t.toNat % 2 := by
      rcases Nat.mod_two_eq_zero_or_one t.toNat with k | k <;> rw [k] <;> rfl
    show 2 * (t.toNat / 2) + (t.toNat % 2 == 1).toNat = t.toNat
    rw [hsecond]
    omega
  · cases h

theorem outstandingPiece_tag {s : State} {c : Completion} {r : PieceRef} {pc : Piece}
    (h : outstandingPiece s c = some (r, pc)) : 2 * r.entry.val + r.second.toNat = c.tag.toNat := by
  unfold outstandingPiece at h
  cases hr : refOfTag c.tag with
  | none =>
    rw [hr] at h
    cases h
  | some x =>
    rw [hr] at h
    dsimp only at h
    split at h
    · split at h
      · cases h
        exact refOfTag_eq_some hr
      · cases h
    · cases h

/-- Settles O45: no piece is found, so only the counter is written. -/
theorem strayCompletion : Obligations.StrayCompletion := by
  intro c s hr hnone
  have hstray : complete c s = { s with stray := s.stray + 1 } := by
    unfold complete
    cases hout : outstandingPiece s c with
    | none => rfl
    | some x =>
      obtain ⟨hpc, ho⟩ := outstandingPiece_some hout
      exact absurd ho (hnone _ _ (outstandingPiece_tag hout) hpc)
  have hexec : exec (.downstreamCompletion c) s = .next { s with stray := s.stray + 1 } := by
    rw [← hstray]
    exact congrArg _ (if_pos hr)
  exact ⟨_, hexec, rfl, rfl, rfl, rfl, rfl, rfl, rfl, ⟨rfl, rfl⟩, SameEvents.refl s, ⟨rfl, rfl, rfl, rfl, rfl, rfl⟩⟩

/-! ## The end of a quiesce (R133) -/

theorem TrafficFrame.samePort {s t : State} (h : TrafficFrame s t) : SamePort s t :=
  ⟨h.response, h.rx, h.awaitRise, h.mdo, h.resetn, h.pending⟩

/-- The end of a quiesce writes the datapath state and the event queue. -/
theorem endQuiesce_only (s : State) :
    endQuiesce s =
      { s with
        datapath := (endQuiesce s).datapath, events := (endQuiesce s).events, lost := (endQuiesce s).lost,
        attn := (endQuiesce s).attn } := by
  unfold endQuiesce
  split
  · obtain ⟨_, h⟩ := raise_raisedOnly { s with datapath := .normal } { kind := .datapathQuiet }
    rw [raise_datapath]
    exact h
  · rfl

@[simp] theorem endQuiesce_entry (s : State) (e : EntryId) : (endQuiesce s).entry e = s.entry e := by
  rw [endQuiesce_only]
  rfl

@[simp] theorem endQuiesce_port (s : State) (p : PortId) : (endQuiesce s).port p = s.port p := by
  rw [endQuiesce_only]
  rfl

@[simp] theorem endQuiesce_page (s : State) (p : PageId) : (endQuiesce s).page p = s.page p := by
  rw [endQuiesce_only]
  rfl

/-- With nothing to hold it, a QUIESCING datapath is NORMAL again and DATAPATH_QUIET is raised. -/
theorem endQuiesce_ends {s : State} (hq : s.datapath = .quiescing) (hnone : ∀ e, (s.entry e).holdsQuiesce = false) :
    (endQuiesce s).datapath = .normal ∧ Raised { kind := .datapathQuiet } s (endQuiesce s)
      ∧ SameSettings s (endQuiesce s) := by
  have h : endQuiesce s = { s with datapath := .normal }.raise { kind := .datapathQuiet } :=
    if_pos (by simp [hq, hnone])
  have hraised := raised_raise { s with datapath := .normal } { kind := .datapathQuiet }
  rw [h]
  exact ⟨raise_datapath _ _, hraised.congr rfl rfl rfl rfl rfl rfl rfl rfl, raise_watermark _ _, raise_kindMask _ _⟩

section Behind

variable {u v t : State} {p : PortId} {x : Option EntryId} (hevents : SameEvents u v)
  (ht : t = (endQuiesce v).modPort p fun po => { po with presented := x })
include hevents ht

/-- Behind an event and its presentation the datapath is as before while something holds it. -/
theorem held_behind (h : v.datapath = .quiescing → ∃ e, (v.entry e).holdsQuiesce = true) :
    t.datapath = v.datapath ∧ SameEvents u t := by
  rw [ht, endQuiesce_held h]
  exact ⟨rfl, hevents⟩

/-- When nothing holds it any more it is NORMAL, with DATAPATH_QUIET behind what the event raised. -/
theorem quiet_behind (hq : v.datapath = .quiescing) (hnone : ∀ e, (v.entry e).holdsQuiesce = false) :
    t.datapath = .normal ∧ Raised { kind := .datapathQuiet } u t ∧ SameSettings u t := by
  obtain ⟨hnormal, hraised, hwater, hmask⟩ := endQuiesce_ends hq hnone
  obtain ⟨h1, h2, h3, h4, h5⟩ := hevents
  rw [ht]
  exact ⟨hnormal, hraised.congr h1.symm h2.symm h3.symm h4.symm h5.symm rfl rfl rfl, hwater.trans h4, hmask.trans h5⟩

end Behind

theorem modPort_modPort (s : State) (p : PortId) (f g : Port → Port) :
    (s.modPort p f).modPort p g = s.modPort p fun po => g (f po) := by
  unfold State.modPort
  simp [State.port]

theorem filter_bne_eq (l : List EntryId) (e : EntryId) : l.filter (· != e) = l.filter (· ≠ e) :=
  List.filter_congr fun d _ => by rw [Bool.eq_iff_iff]; simp

/-! ## Delivery (R100, R129, R132, R183) -/

theorem responseMessage_sent (p : PortId) (id : BitVec 4) (resp : Response) :
    ResponseSent p id resp (responseMessage p id resp) := by
  refine ⟨rfl, rfl, rfl, fun h => ?_, fun h => ?_, fun h => ?_, fun h => ?_, fun why h => ?_⟩
  · exact congrArg ResponseStatus.code h
  · exact congrArg ResponseStatus.code h
  · exact congrArg ResponseStatus.code h
  · exact congrArg reasonField h
  · have hreason : (responseMessage p id resp).reason = why.code := congrArg reasonField h
    rw [hreason]
    cases why <;> rfl

/-- An entry whose response has been taken: ORPHANED with a piece outstanding, else FREE (R129, R132). -/
def Entry.delivered (en : Entry) : Entry :=
  if en.anyOutstanding then { en with state := .orphaned, prepared := none } else Entry.blank

/-- The port whose response for entry e has been taken, and whether the entry stays in its order. -/
def Port.delivered (stays : Bool) (e : EntryId) (po : Port) : Port :=
  { po with order := if stays then po.order else po.order.filter (· != e), presented := none }

/-- The part once the presented response of entry e has gone out at port p, before the quiesce can end and the port presents
again. -/
def delivered (p : PortId) (e : EntryId) (s : State) : State :=
  (retireEntry e (sendResponse p e s)).modPort p fun po => { po with presented := none }

theorem exec_delivery {s : State} {p : PortId} {e : EntryId} (hr : s.resetn = true) (hp : (s.port p).presented = some e) :
    exec (.delivery p) s = .next (testWaiting (present p (endQuiesce (delivered p e s)))) := by
  show Host.Outcome.next (if s.resetn then deliver p s else s) = _
  rw [if_pos hr]
  unfold deliver delivered
  rw [hp]

theorem exec_delivery_nothing {s : State} {p : PortId} (hr : s.resetn = true) (hp : (s.port p).presented = none) :
    exec (.delivery p) s = .next s := by
  show Host.Outcome.next (if s.resetn then deliver p s else s) = _
  rw [if_pos hr]
  unfold deliver
  rw [hp]

theorem delivered_frame (p : PortId) (e : EntryId) (s : State) : TrafficFrame s (delivered p e s) :=
  ((sendResponse_frame p e s).trans (retireEntry_frame e _)).trans (modPort_frame _ p _)

section Delivered

variable {s : State} {p : PortId} {e : EntryId} {resp : Response} (hport : (s.entry e).port = p)
  (hresp : (s.entry e).prepared = some resp)
include hport hresp

/-- What a delivery writes of table, ports and links. -/
theorem delivered_eq :
    delivered p e s =
      { (s.modEntry e Entry.delivered).modPort p (Port.delivered (s.entry e).anyOutstanding e) with
        links :=
          { s.links with sentResponses := s.links.sentResponses ++ [responseMessage p (s.entry e).id resp] } } := by
  have hentry : (s.entry e).delivered = if (s.entry e).anyOutstanding then
      { s.entry e with state := .orphaned, prepared := none } else Entry.blank := rfl
  subst hport
  unfold delivered sendResponse
  rw [hresp]
  dsimp only
  generalize s.links.sentResponses ++ _ = sent
  unfold retireEntry
  change (if (s.entry e).anyOutstanding then _ else _ : State).modPort _ _ = _
  cases hout : (s.entry e).anyOutstanding with
  | true =>
    rw [hout, if_pos rfl] at hentry
    exact congrArg (fun u : State => { u.modPort (s.entry e).port (fun po => { po with presented := none }) with
      links := { s.links with sentResponses := sent } })
      (modEntry_congr (f := fun en => { en with state := .orphaned, prepared := none }) hentry.symm)
  | false =>
    rw [hout, if_neg Bool.false_ne_true] at hentry
    rw [if_neg Bool.false_ne_true]
    refine Eq.trans ?_ (congrArg (fun u : State => { u.modPort (s.entry e).port (Port.delivered false e) with
      links := { s.links with sentResponses := sent } }) (modEntry_congr (f := fun _ => Entry.blank) hentry.symm))
    exact congrArg (fun u : State => u.modEntry e fun _ => Entry.blank) (modPort_modPort
      { s with links := { s.links with sentResponses := sent } } (s.entry e).port
      (fun po => { po with order := po.order.filter (· != e) }) fun po => { po with presented := none })

theorem delivered_entry (d : EntryId) :
    (delivered p e s).entry d = if d = e then (s.entry e).delivered else s.entry d := by
  rw [delivered_eq hport hresp]
  exact modEntry_entry s e d _

theorem delivered_port (q : PortId) :
    (delivered p e s).port q = if q = p then (s.port p).delivered (s.entry e).anyOutstanding e else s.port q := by
  rw [delivered_eq hport hresp]
  exact modPort_port _ p q _

end Delivered

/-- Settles O50: the response goes out, the entry is ORPHANED or FREE, what else held the datapath before still holds it, and
the port presents again. -/
theorem deliveryEndsTheEntry : Obligations.DeliveryEndsTheEntry := by
  intro p s hr _
  refine ⟨fun hnone => ⟨s, exec_delivery_nothing hr hnone, rfl⟩, fun e resp hp hresp hport => ?_⟩
  have hwrites := delivered_eq hport hresp
  have hentries := delivered_entry hport hresp
  have hports := delivered_port hport hresp
  have hframe := (delivered_frame p e s).trans ((endQuiesce_frame _).trans (present_frame p _))
  have hexec := exec_delivery hr hp
  generalize delivered p e s = v at hwrites hentries hports hframe hexec
  have hother : ∀ d, d ≠ e → v.entry d = s.entry d := fun d hd => by rw [hentries, if_neg hd]
  have hentry : v.entry e = (s.entry e).delivered := by rw [hentries, if_pos rfl]
  have hdatapath : v.datapath = s.datapath := by rw [hwrites]; rfl
  have hevents : SameEvents s v := by rw [hwrites]; exact SameEvents.refl s
  obtain ⟨x, hx, hpres⟩ := present_leaves p (endQuiesce v)
  rw [endQuiesce_port, hports, if_pos rfl] at hpres
  refine ⟨_, _, responseMessage p (s.entry e).id resp, hexec, testWaiting_retested _, ?_⟩
  generalize present p (endQuiesce v) = t at hx hpres hframe
  have htentry : ∀ d, t.entry d = v.entry d := fun d => by rw [hx, modPort_entry, endQuiesce_entry]
  have htport : t.port p = { (s.port p).delivered (s.entry e).anyOutstanding e with presented := (t.port p).presented } := by
    rw [hx, modPort_port_same, endQuiesce_port, hports, if_pos rfl]
  have hheld : (∃ d, (v.entry d).holdsQuiesce = true) ∨ s.datapath = .normal →
      t.datapath = s.datapath ∧ SameEvents s t := fun h => by
    rw [← hdatapath] at h ⊢
    exact held_behind hevents hx fun hq => h.resolve_right (by rw [hq]; decide)
  refine ⟨fun d hd => (htentry d).trans (hother d hd), fun q hq => ?_, hpres, responseMessage_sent p _ resp, ?_,
    fun hnot => ?_, fun hsome => ?_, ?_, ?_, ?_, ⟨?_, ?_⟩, hframe.samePort⟩
  · rw [hx, modPort_port_other _ hq, endQuiesce_port, hports, if_neg hq]
  · rw [hx, endQuiesce_only, hwrites]
    rfl
  · have hout : (s.entry e).anyOutstanding = false := Bool.eq_false_iff.2 fun k => by
      obtain ⟨pc, hpc, ho⟩ := (Entry.anyOutstanding_iff _).1 k
      exact hnot pc hpc ho
    have hblank : v.entry e = Entry.blank := hentry.trans (if_neg (ne_true_of_eq_false hout))
    rw [hout] at htport
    refine ⟨by rw [htentry, hblank]; rfl, ?_, fun h => ?_, fun hq hnone => ?_⟩
    · refine htport.trans ?_
      rw [← filter_bne_eq]
      rfl
    · refine hheld (h.symm.imp_left ?_)
      rintro ⟨d, hd, hq⟩
      exact ⟨d, by rw [hother d hd]; exact hq⟩
    · have hfree : ∀ d, (v.entry d).holdsQuiesce = false := fun d => by
        by_cases hd : d = e
        · rw [hd, hblank]
          rfl
        · rw [hother d hd]
          exact hnone d hd
      exact quiet_behind hevents hx (hdatapath.trans hq) hfree
  · have hout := (Entry.anyOutstanding_iff _).2 hsome
    have horphaned : v.entry e = { s.entry e with state := .orphaned, prepared := none } := hentry.trans (if_pos hout)
    rw [hout] at htport
    refine ⟨(htentry e).trans horphaned, ?_, hheld (Or.inl ⟨e, by rw [horphaned]; rfl⟩)⟩
    exact htport
  all_goals
    rw [hx, endQuiesce_only, hwrites]
    rfl

end Sys2Proof.Machine

/-! PROOFS. The status and the reports of a completed piece, and a completion beside another piece in flight (O47). -/

namespace Sys2Proof.Machine

/-! ## The completed piece and its reports (R126, R141) -/

theorem checkedStatus_eq {c : Completion} {kind : Access} {length : Nat} {ok : Bool}
    (hok : ok = true ↔ CompletesOk c kind length) : checkedStatus kind length c = if ok then .ok else .error := by
  unfold checkedStatus
  unfold CompletesOk at hok
  cases hc : c.status with
  | error =>
    have hfail : ok = false := Bool.eq_false_iff.2 fun k => by simpa [hc] using hok.1 k
    rw [hfail]
    rfl
  | ok =>
    cases kind with
    | write =>
      rw [hok.2 ⟨hc, Or.inl rfl⟩]
      rfl
    | read =>
      by_cases hlen : length ≤ c.beats.length
      · rw [hok.2 ⟨hc, Or.inr hlen⟩]
        simpa using hlen
      · have hfail : ok = false := Bool.eq_false_iff.2 fun k => by simpa [hlen] using hok.1 k
        rw [hfail]
        simpa using hlen

section Checked

variable {c : Completion} {en : Entry} {pc : Piece} {ok : Bool} (hok : ok = true ↔ CompletesOk c en.kind pc.length)
include hok

theorem Piece.complete_eq :
    pc.complete en c =
      { pc with
        status := if ok then .ok else .error,
        readData := if ok ∧ en.kind = .read ∧ en.state = .issued then c.beats.take pc.length else [] } := by
  have hstatus := checkedStatus_eq hok
  unfold Piece.complete keptBeats
  rw [hstatus]
  cases ok <;> cases en.kind <;> simp

theorem pieceReported_completed (s : State) : ok = true → pieceReported en pc c s = s := by
  rintro rfl
  unfold pieceReported
  rw [checkedStatus_eq hok]
  rfl

theorem pieceReported_failed (s : State) : ok = false → pieceReported en pc c s = failPiece en pc s := by
  rintro rfl
  unfold pieceReported
  rw [checkedStatus_eq hok]
  rfl

/-- A failing piece is counted at its port (R126). -/
theorem pieceReported_port (s : State) (q : PortId) :
    (pieceReported en pc c s).port q =
      if q = en.port then { s.port q with faults := (s.port q).faults + if ok then 0 else 1 } else s.port q := by
  cases ok with
  | true =>
    rw [pieceReported_completed hok s rfl]
    simp
  | false =>
    have hport : (failPiece en pc s).port q =
        (s.modPort en.port fun po => { po with faults := po.faults + 1 }).port q := by
      unfold failPiece reportDamage
      split <;> simp
    rw [pieceReported_failed hok s rfl, hport, modPort_port]
    split
    · next h =>
      rw [h]
      rfl
    · rfl

/-- DOWNSTREAM_FAULT is the only event of a failing piece (R126). -/
theorem pieceReported_raised (s : State) (hfail : ok = false) :
    Raised (faultRecord en pc) s (pieceReported en pc c s) := by
  have hraised := raised_raise (s.modPort en.port fun po => { po with faults := po.faults + 1 }) (faultRecord en pc)
  rw [pieceReported_failed hok s hfail]
  refine hraised.congr rfl rfl rfl rfl rfl ?_ ?_ ?_ <;> unfold failPiece reportDamage <;> split <;> rfl

end Checked

/-- The reports write counters, damage and the event queue. -/
theorem pieceReported_only (en : Entry) (pc : Piece) (c : Completion) (s : State) :
    pieceReported en pc c s =
      { s with
        pages := (pieceReported en pc c s).pages, ports := (pieceReported en pc c s).ports,
        events := (pieceReported en pc c s).events, lost := (pieceReported en pc c s).lost,
        attn := (pieceReported en pc c s).attn } := by
  unfold pieceReported
  split
  · rfl
  · obtain ⟨_, h⟩ := raise_raisedOnly (s.modPort en.port fun po => { po with faults := po.faults + 1 }) (faultRecord en pc)
    unfold failPiece
    rw [h]
    unfold reportDamage
    split <;> rfl

/-- A page whose stage keeps it from being marked, and every page but the entry's, is as it was (R35). -/
theorem pieceReported_page {en : Entry} {s : State} (pc : Piece) (c : Completion) {q : PageId}
    (h : ∀ g, en.target = some g → q = g.page → (s.page q).markDamaged = s.page q) :
    (pieceReported en pc c s).page q = s.page q := by
  unfold pieceReported
  split
  · rfl
  · unfold failPiece reportDamage
    split
    · next g _ hg =>
      rw [modPage_page]
      split
      · next hq =>
        rw [raise_page, modPort_page, ← hq]
        exact h g hg hq
      · simp
    · simp

/-! ## A completion beside another piece in flight (R126, R141, R35) -/

theorem modify_congr {l : List Piece} {i : Nat} {f g : Piece → Piece} {pc : Piece} (h : l[i]? = some pc)
    (hfg : f pc = g pc) : l.modify i f = l.modify i g := by
  apply List.ext_getElem?
  intro j
  rw [List.getElem?_modify, List.getElem?_modify]
  split
  · next hij =>
    subst hij
    simp [h, hfg]
  · rfl

/-- Another piece of the entry stays in flight while the first one completes. -/
theorem Entry.modPiece_inFlight {en : Entry} {b : Bool} {f : Piece → Piece} {other : Piece}
    (hp : en.piece (!b) = some other) (ho : other.status = .queued ∨ other.status = .outstanding) :
    (en.modPiece b f).inFlight = true := by
  have hne : b.toNat ≠ (!b).toNat := by cases b <;> decide
  rw [Entry.piece_eq] at hp
  rw [Entry.modPiece_eq]
  refine (Entry.inFlight_iff _).2 ⟨other, List.mem_of_getElem? (i := (!b).toNat) ?_, ho⟩
  simp [hne, hp]

/-- The pieces and their data are not what holds the datapath (R133). -/
theorem holdsQuiesce_modPiece {s : State} {e : EntryId} {b : Bool} {f : Entry → Piece → Piece} (d : EntryId) :
    ((s.modEntry e fun en => en.modPiece b (f en)).entry d).holdsQuiesce = (s.entry d).holdsQuiesce := by
  rw [modEntry_entry]
  split
  · next hd =>
    rw [Entry.modPiece_eq, hd]
    rfl
  · rfl

/-- Settles O47: the entry is still in flight, so nothing but the reports and the piece itself is written, and the port
presents. -/
theorem completionBesideAnotherPiece : Obligations.CompletionBesideAnotherPiece := by
  intro c r pc other ok s hquiesce hr htag hpc hout hother hflying hok
  have hexec := exec_completion hr htag hpc hout
  have hreported := pieceReported_entry (s.entry r.entry) pc c s
  have honly := pieceReported_only (s.entry r.entry) pc c s
  have hdone := pieceReported_completed hok s
  have hfailed := pieceReported_failed hok s
  have hports := pieceReported_port hok s
  rw [completePiece_eq] at hexec
  generalize pieceReported (s.entry r.entry) pc c s = a at *
  have hsettle : settleDone r.entry (a.modEntry r.entry fun en => en.modPiece r.second fun pc => pc.complete en c)
      = a.modEntry r.entry fun en => en.modPiece r.second fun pc => pc.complete en c := by
    unfold settleDone
    rw [modEntry_entry_same, hreported, if_pos (Entry.modPiece_inFlight hother hflying)]
  have hdatapath : a.datapath = s.datapath := by rw [honly]
  have hheld : endQuiesce (a.modEntry r.entry fun en => en.modPiece r.second fun pc => pc.complete en c)
      = a.modEntry r.entry fun en => en.modPiece r.second fun pc => pc.complete en c := by
    refine endQuiesce_held fun hq => ?_
    obtain ⟨d, hd⟩ := hquiesce.1 (hdatapath.symm.trans hq)
    refine ⟨d, ?_⟩
    rw [holdsQuiesce_modPiece, hreported]
    exact hd
  rw [hsettle, hheld] at hexec
  obtain ⟨x, hx, hpres⟩ := present_leaves (s.entry r.entry).port
    (a.modEntry r.entry fun en => en.modPiece r.second fun pc => pc.complete en c)
  rw [modEntry_port, hports, if_pos rfl] at hpres
  refine ⟨a, _, _, hexec, testWaiting_retested _, hdone, fun hf => ?_, ?_, fun d hd => ?_, ?_, hpres, ?_⟩
  · rw [hfailed hf]
    exact failPiece_reported _ _ _
  · rw [Entry.piece_eq] at hpc
    rw [hx, modPort_entry, modEntry_entry_same, hreported, Entry.modPiece_eq]
    congr 1
    exact modify_congr hpc (Piece.complete_eq hok)
  · rw [hx, modPort_entry, modEntry_entry_other _ hd, hreported]
  · rw [hx, modPort_port_same]
    rfl
  · rw [hx]
    rfl

end Sys2Proof.Machine

/-! PROOFS. The completion of the last piece of an entry, and that of an entry which a datapath reset has answered (O48). -/

namespace Sys2Proof.Machine

/-! ## The last piece of an entry (R126) -/

theorem modify_middle (before after : List Piece) (pc : Piece) (f : Piece → Piece) :
    (before ++ pc :: after).modify before.length f = before ++ f pc :: after := by
  induction before with
  | nil => rfl
  | cons q before ih => exact congrArg (q :: ·) ih

/-- The entry with its last piece completed. -/
def Entry.concluded (en : Entry) (before : List Piece) (pc : Piece) (after : List Piece) (c : Completion) : Entry :=
  { en with pieces := before ++ pc.complete en c :: after }

section LastPiece

variable {c : Completion} {e : EntryId} {before after : List Piece} {pc : Piece} {s : State}
  (hpieces : (s.entry e).pieces = before ++ pc :: after) (hshort : before.length ≤ 1)
  (hlast : ∀ q ∈ before ++ after, q.status ≠ .queued ∧ q.status ≠ .outstanding)

include hlast in
theorem Entry.concluded_not_inFlight (en : Entry) : (en.concluded before pc after c).inFlight = false := by
  rw [Bool.eq_false_iff, Ne, Entry.inFlight_iff]
  rintro ⟨q, hq, hst⟩
  have hmem : q = pc.complete en c ∨ q ∈ before ++ after := by
    simpa [Entry.concluded, or_left_comm] using hq
  rcases hmem with rfl | hmem
  · rcases Piece.complete_status pc en c with k | k <;> simp [k] at hst
  · obtain ⟨hq, ho⟩ := hlast q hmem
    exact hst.elim hq ho

include hpieces hshort hlast in
/-- The completion of the last piece in flight settles the entry (R126, R127, R132). -/
theorem exec_lastPiece (hr : s.resetn = true) (htag : c.tag.toNat = 2 * e.val + before.length)
    (hout : pc.status = .outstanding) :
    exec (.downstreamCompletion c) s =
      .next (testWaiting (present (s.entry e).port (endQuiesce (settleEntry e
        ((pieceReported (s.entry e) pc c s).modEntry e fun _ => (s.entry e).concluded before pc after c))))) := by
  obtain ⟨second, hsecond⟩ : ∃ b : Bool, b.toNat = before.length := ⟨before.length == 1, by
    rcases Nat.le_one_iff_eq_zero_or_eq_one.1 hshort with k | k <;> rw [k] <;> rfl⟩
  have hpiece : (s.entry e).piece second = some pc := by
    rw [Entry.piece_eq, hpieces, hsecond]
    simp
  have hentry := pieceReported_entry (s.entry e) pc c s e
  have hconcluded : (s.entry e).modPiece second (fun pc => pc.complete (s.entry e) c)
      = (s.entry e).concluded before pc after c := by
    rw [Entry.modPiece_eq, hpieces, hsecond, modify_middle]
    rfl
  rw [exec_completion hr (by rw [htag, hsecond]) hpiece hout, completePiece_eq]
  rw [modEntry_congr (g := fun _ => (s.entry e).concluded before pc after c) (by rw [hentry, hconcluded])]
  unfold settleDone
  rw [modEntry_entry_same, Entry.concluded_not_inFlight hlast, if_neg Bool.false_ne_true]

end LastPiece

/-! ## A page whose count has been lowered (R30, R32) -/

theorem Page.lowerCount_eq (k : Access) (pg : Page) :
    pg.lowerCount k =
      { pg with
        writeCount := pg.writeCount - (if k = .write then 1 else 0),
        readCount := pg.readCount - (if k = .read then 1 else 0) } := by
  cases k <;> rfl

section Examined

variable {k : Access} {q : PageId} {n : StreamId} {s : State}

/-- A CLOSING page seals with its last write (R30). -/
theorem examinePage_seals (hs : (s.page q).stage = .closing) (hzero : (s.page q).writeCount = 0)
    (ho : (s.page q).owner = some n) : examinePage .write q s = sealPage n q s := by
  unfold examinePage
  simp [hs, hzero, ho]

/-- An unheld RETIRING page is FREE with its last count (R32). -/
theorem examinePage_frees (hs : (s.page q).stage = .retiring)
    (hzero : (s.page q).writeCount = 0 ∧ (s.page q).readCount = 0) (hunheld : (s.page q).unheld = true)
    (ho : (s.page q).owner = some n) :
    examinePage k q s = endStop n (s.modPage q fun pg => { pg with stage := .free }) := by
  unfold examinePage
  simp [hs, (Page.idle_iff _).2 hzero, hunheld, ho]

/-- In every other case nothing follows from a lowered count. -/
theorem examinePage_rests (hc : ¬ ((s.page q).stage = .closing ∧ k = .write ∧ (s.page q).writeCount = 0))
    (hr : ¬ ((s.page q).stage = .retiring ∧ (s.page q).writeCount = 0 ∧ (s.page q).readCount = 0)) :
    examinePage k q s = s := by
  unfold examinePage
  dsimp only
  cases hs : (s.page q).stage with
  | closing =>
    rw [hs] at hc
    exact if_neg fun h => hc ⟨rfl, by simpa using h⟩
  | retiring =>
    rw [hs, ← Page.idle_iff] at hr
    exact if_neg fun h => hr ⟨rfl, (Bool.and_eq_true_iff.1 h).1⟩
  | unassigned | free | filling | sealed | published => rfl

end Examined

/-! ## After a datapath reset (R29, R32, R132, R133) -/

theorem Page.markDamaged_retiring {pg : Page} (h : pg.stage = .retiring) : pg.markDamaged = pg := by
  unfold Page.markDamaged
  rw [h]
  rfl

/-- A RETIRING page with a count lowered: FREE when that was its last one (R29, R32). -/
def Page.retiringLowered (k : Access) (pg : Page) : Page :=
  { pg.lowerCount k with
    stage := if (pg.lowerCount k).writeCount = 0 ∧ (pg.lowerCount k).readCount = 0 then .free else .retiring }

/-- No stop ends with the last count of an unheld RETIRING page whose stream is OFF (R93). -/
theorem lowerCount_retiring {k : Access} {q : PageId} {n : StreamId} {s : State} (hs : (s.page q).stage = .retiring)
    (ha : (s.page q).holdA = false) (hb : (s.page q).holdB = false) (ho : (s.page q).owner = some n)
    (hn : (s.stream n).state = .off) : lowerCount k q s = s.modPage q (Page.retiringLowered k) := by
  have hpage : (s.modPage q (Page.lowerCount k)).page q = (s.page q).lowerCount k := modPage_page_same s q _
  have hstage : ((s.page q).lowerCount k).stage = .retiring := by rw [Page.lowerCount_eq, hs]
  unfold lowerCount
  by_cases hzero : ((s.page q).lowerCount k).writeCount = 0 ∧ ((s.page q).lowerCount k).readCount = 0
  · have hstop : ∀ u : State, u.stream n = s.stream n → endStop n u = u := fun u hu => by
      unfold endStop
      rw [hu, hn]
      rfl
    rw [examinePage_frees (n := n) (by rw [hpage, hstage]) (by rw [hpage]; exact hzero), hstop _ (by simp),
      modPage_modPage]
    · refine modPage_congr ?_
      unfold Page.retiringLowered
      rw [if_pos hzero]
    · rw [hpage, Page.lowerCount_eq, Page.unheld_iff]
      exact ⟨ha, hb⟩
    · rw [hpage, Page.lowerCount_eq, ho]
  · rw [examinePage_rests (by simp [hpage, hstage]) (by rw [hpage]; exact fun h => hzero h.2)]
    refine modPage_congr ?_
    unfold Page.retiringLowered
    rw [if_neg hzero, ← hstage]

/-- The count of an entry's RETIRING page is lowered, and no other page and nothing else changes. -/
theorem lowerTarget_retiring {en : Entry} {s : State}
    (hpage : ∀ g, en.target = some g → (s.page g.page).stage = .retiring ∧ (s.page g.page).holdA = false
      ∧ (s.page g.page).holdB = false ∧ ∃ n, (s.page g.page).owner = some n ∧ (s.stream n).state = .off) :
    lowerTarget en s = { s with pages := (lowerTarget en s).pages }
      ∧ (en.target = none → (lowerTarget en s).pages = s.pages)
      ∧ ∀ g, en.target = some g → ∀ q, (lowerTarget en s).page q =
          if q = g.page then (s.page g.page).retiringLowered en.kind else s.page q := by
  unfold lowerTarget
  cases htarget : en.target with
  | none => exact ⟨rfl, fun _ => rfl, fun _ k => by cases k⟩
  | some g =>
    obtain ⟨hs, ha, hb, n, ho, hn⟩ := hpage g htarget
    dsimp only
    rw [lowerCount_retiring hs ha hb ho hn]
    refine ⟨rfl, fun k => (by cases k), fun g' hg q => ?_⟩
    cases hg
    exact modPage_page s g.page q _

section AfterReset

variable {c : Completion} {e : EntryId} {before after : List Piece} {pc : Piece} {ok : Bool} {s : State}
  (hok : ok = true ↔ CompletesOk c (s.entry e).kind pc.length)
  (hstate : (s.entry e).state = .orphaned ∨ (s.entry e).state = .doneWaiting)
include hok hstate

/-- The table once the last outstanding piece of an ORPHANED or DONE-WAITING entry has completed, before the count falls. -/
theorem settled_after_reset :
    ∃ w, settleEntry e ((pieceReported (s.entry e) pc c s).modEntry e fun _ => (s.entry e).concluded before pc after c)
        = lowerTarget (s.entry e) w
      ∧ w = { pieceReported (s.entry e) pc c s with entries := w.entries, ports := w.ports }
      ∧ OtherEntries e s w ∧ OtherPorts (s.entry e).port s w
      ∧ (w.port (s.entry e).port).presented = (s.port (s.entry e).port).presented
      ∧ ((s.entry e).state = .orphaned → w.entry e = Entry.blank ∧ w.port (s.entry e).port =
          { s.port (s.entry e).port with
            order := (s.port (s.entry e).port).order.filter (· ≠ e),
            faults := (s.port (s.entry e).port).faults + (if ok then 0 else 1) })
      ∧ ((s.entry e).state = .doneWaiting →
          w.entry e = { s.entry e with
            pieces := before ++ { pc with status := if ok then .ok else .error, readData := [] } :: after }
          ∧ w.port (s.entry e).port =
            { s.port (s.entry e).port with
              faults := (s.port (s.entry e).port).faults + (if ok then 0 else 1) }) := by
  have hentries := pieceReported_entry (s.entry e) pc c s
  have hports := pieceReported_port hok s
  generalize pieceReported (s.entry e) pc c s = a at *
  rcases hstate with hs | hs
  · have hsettle : settleEntry e (a.modEntry e fun _ => (s.entry e).concluded before pc after c)
        = lowerTarget (s.entry e) (freeEntry e a) := by
      rw [settleEntry_orphaned (by rw [modEntry_entry_same]; exact hs), modEntry_entry_same, freeEntry_modEntry]
      · rfl
      · rw [hentries]
        rfl
    refine ⟨_, hsettle, rfl, fun d hd => ?_, fun q hq => ?_, ?_, fun _ => ⟨?_, ?_⟩, fun k => ?_⟩
    · rw [freeEntry_entry, if_neg hd, hentries]
    · rw [freeEntry_port, hentries, if_neg hq, hports, if_neg hq]
    · rw [freeEntry_port, hentries, if_pos rfl, hports, if_pos rfl]
    · rw [freeEntry_entry, if_pos rfl]
    · rw [freeEntry_port, hentries, if_pos rfl, hports, if_pos rfl, filter_bne_eq]
    · rw [hs] at k
      cases k
  · have hsettle : settleEntry e (a.modEntry e fun _ => (s.entry e).concluded before pc after c)
        = lowerTarget (s.entry e) (a.modEntry e fun _ => (s.entry e).concluded before pc after c) := by
      rw [settleEntry_doneWaiting (by rw [modEntry_entry_same]; exact hs), modEntry_entry_same]
      rfl
    refine ⟨_, hsettle, rfl, fun d hd => ?_, fun q hq => ?_, ?_, fun k => ?_, fun _ => ⟨?_, ?_⟩⟩
    · rw [modEntry_entry_other _ hd, hentries]
    · rw [modEntry_port, hports, if_neg hq]
    · rw [modEntry_port, hports, if_pos rfl]
    · rw [hs] at k
      cases k
    · rw [modEntry_entry_same, Entry.concluded, Piece.complete_eq hok]
      simp [hs]
    · rw [modEntry_port, hports, if_pos rfl]

end AfterReset

/-- Settles O48: the piece is reported, the entry freed or left to its delivery, the page's count lowered, the quiesce ended
when nothing holds it, and the port presents. -/
theorem completionAfterADatapathReset : Obligations.CompletionAfterADatapathReset := by
  intro c e before after pc ok s hr htag hpieces hlen hout hlast hq hstate hretiring hok
  have hexec := exec_lastPiece hpieces (by omega) hlast hr htag hout
  obtain ⟨w, hsettle, hw, hwentries, hwports, hwpres, horphaned, hdone⟩ :=
    settled_after_reset (before := before) (after := after) hok (hstate.imp_right And.left)
  have hpages : ∀ q, (pieceReported (s.entry e) pc c s).page q = s.page q := fun q =>
    pieceReported_page pc c fun g hg hqg => by
      obtain ⟨hst, _⟩ := hretiring g hg
      rw [hqg, Page.markDamaged_retiring hst]
  have hcompleted := pieceReported_completed hok s
  have hraised := pieceReported_raised hok s
  have honly := pieceReported_only (s.entry e) pc c s
  rw [hsettle] at hexec
  generalize pieceReported (s.entry e) pc c s = a at *
  have hwpage : ∀ q, w.page q = s.page q := fun q => by
    rw [hw]
    exact hpages q
  have hwstream : ∀ n, w.stream n = s.stream n := fun n => by
    rw [hw, honly]
    rfl
  obtain ⟨hv, hvpages, hvpage⟩ := lowerTarget_retiring (en := s.entry e) (s := w) fun g hg => by
    simpa only [hwpage, hwstream] using hretiring g hg
  generalize lowerTarget (s.entry e) w = v at *
  have hventry : ∀ d, v.entry d = w.entry d := fun d => by
    rw [hv]
    rfl
  have hvport : ∀ q, v.port q = w.port q := fun q => by
    rw [hv]
    rfl
  have hvdatapath : v.datapath = .quiescing := by
    rw [hv, hw, honly]
    exact hq
  have hevents : SameEvents a v := by
    rw [hv, hw]
    exact SameEvents.refl a
  obtain ⟨x, hx, hpres⟩ := present_leaves (s.entry e).port (endQuiesce v)
  rw [endQuiesce_port, hvport, hwpres] at hpres
  refine ⟨a, _, _, hexec, testWaiting_retested _, ?_⟩
  generalize present (s.entry e).port (endQuiesce v) = t at hx hpres
  have htentry : ∀ d, t.entry d = w.entry d := fun d => by rw [hx, modPort_entry, endQuiesce_entry, hventry]
  have htpage : ∀ q, t.page q = v.page q := fun q => by rw [hx, modPort_page, endQuiesce_page]
  have htport : t.port (s.entry e).port =
      { w.port (s.entry e).port with presented := (t.port (s.entry e).port).presented } := by
    rw [hx, modPort_port_same, endQuiesce_port, hvport]
  refine ⟨fun h => ?_, fun h => ?_, hpres, fun d hd => (htentry d).trans (hwentries d hd), fun q hne => ?_, fun hnone => ?_,
    fun g hg => ?_, fun h => ?_, fun h => ⟨hraised h, ?_⟩, fun h => ?_, fun h hnone => ?_, ?_⟩
  · obtain ⟨hblank, hport⟩ := horphaned h
    refine ⟨by rw [htentry, hblank]; rfl, ?_⟩
    rw [hport] at htport
    exact htport
  · obtain ⟨hentry, hport⟩ := hdone h
    rw [hport] at htport
    exact ⟨(htentry e).trans hentry, htport⟩
  · rw [hx, modPort_port_other _ hne, endQuiesce_port, hvport]
    exact hwports q hne
  · refine vector_ext_get fun q => (htpage q).trans ?_
    rw [State.page, hvpages hnone]
    exact hwpage q
  · have hpage : t.page g.page = (s.page g.page).retiringLowered (s.entry e).kind := by
      rw [htpage, hvpage g hg, if_pos rfl, hwpage]
    rw [hpage, Page.retiringLowered, Page.lowerCount_eq]
    refine ⟨rfl, rfl, rfl, rfl, rfl, fun q hne => ?_⟩
    rw [htpage, hvpage g hg, if_neg (by simpa using hne), hwpage]
  · rw [hcompleted h]
    exact SameEvents.refl s
  · rw [honly]
    exact ⟨rfl, rfl⟩
  · have hheld : ∃ d, (v.entry d).holdsQuiesce = true := by
      rcases h with h | ⟨d, hd, hholds⟩
      · obtain ⟨hentry, _⟩ := hdone h
        refine ⟨e, ?_⟩
        rcases hstate with k | ⟨_, hprepared⟩
        · rw [h] at k
          cases k
        · rw [hventry, hentry]
          simp [Entry.holdsQuiesce, h, hprepared, refusedReset]
      · exact ⟨d, by rw [hventry, hwentries d hd]; exact hholds⟩
    rw [← hvdatapath]
    exact held_behind hevents hx fun _ => hheld
  · have hfree : ∀ d, (v.entry d).holdsQuiesce = false := fun d => by
      rw [hventry]
      by_cases hd : d = e
      · rw [hd, (horphaned h).1]
        rfl
      · rw [hwentries d hd]
        exact hnone d hd
    exact quiet_behind hevents hx hvdatapath hfree
  · rw [hx, endQuiesce_only, hv, hw, honly]
    exact ⟨rfl, rfl, rfl, rfl, rfl, rfl, rfl, rfl, rfl, rfl, rfl⟩

end Sys2Proof.Machine

/-! PROOFS. The completion of the last piece of an ISSUED entry (O46). -/

namespace Sys2Proof.Machine

/-! ## The response (R127) -/

section Response

variable {c : Completion} {en : Entry} {before after : List Piece} {pc : Piece} {ok : Bool}
  (hok : ok = true ↔ CompletesOk c en.kind pc.length)
include hok

theorem Entry.concluded_allOk :
    ((en.concluded before pc after c).pieces.all fun p => p.status == .ok) = true ↔
      ok = true ∧ ∀ q ∈ before ++ after, q.status = .ok := by
  have hpiece : (pc.complete en c).status = .ok ↔ ok = true := by
    rw [Piece.complete_eq hok]
    cases ok <;> simp
  simp only [Entry.concluded, List.all_eq_true, beq_iff_eq, List.mem_append, List.mem_cons]
  constructor
  · intro h
    exact ⟨hpiece.1 (h _ (Or.inr (Or.inl rfl))), fun q hq => h q (hq.imp_right Or.inr)⟩
  · rintro ⟨hdone, hrest⟩ q (hq | rfl | hq)
    · exact hrest q (Or.inl hq)
    · exact hpiece.2 hdone
    · exact hrest q (Or.inr hq)

/-- The prepared entry in full: DONE with a READ's beats in address order, or FAULT. -/
theorem Entry.concluded_finish (hissued : en.state = .issued) :
    (en.concluded before pc after c).finish =
      { en with
        state := .doneWaiting,
        pieces := (before ++ { pc with status := if ok then .ok else .error } :: after).map
          fun q => { q with readData := [] },
        prepared := some (if ok = true ∧ ∀ q ∈ before ++ after, q.status = .ok then
            { status := .done, reason := none,
              data := if en.kind = .read then
                  before.flatMap (·.readData) ++ c.beats.take pc.length ++ after.flatMap (·.readData)
                else [] }
          else { status := .fault, reason := none, data := [] }) } := by
  have hpieces : (en.concluded before pc after c).pieces.map (fun q => { q with readData := [] }) =
      (before ++ { pc with status := if ok then .ok else .error } :: after).map fun q => { q with readData := [] } := by
    simp [Entry.concluded, Piece.complete_eq hok]
  have hresponse : finalResponse (en.concluded before pc after c) =
      if ok = true ∧ ∀ q ∈ before ++ after, q.status = .ok then
        { status := .done, reason := none,
          data := if en.kind = .read then
              before.flatMap (·.readData) ++ c.beats.take pc.length ++ after.flatMap (·.readData)
            else [] }
      else { status := .fault, reason := none, data := [] } := by
    unfold finalResponse
    simp only [Entry.concluded_allOk hok]
    split
    · next hall =>
      congr 1
      unfold mergedData
      cases hk : en.kind with
      | read => simp [Entry.concluded, Piece.complete_eq hok, hall.1, hk, hissued]
      | write => simp [Entry.concluded, hk]
    · rfl
  rw [Entry.finish, hpieces, hresponse]
  rfl

end Response

/-! ## The count of the page (R28 to R32, R53, R93) -/

/-- A CLOSING page that has sealed, with counts and damage of no account, leaves its stream ready for the chain. -/
theorem ChainReady.resealed {n : StreamId} {b : Word32} {q : PageId} {s t : State} (h : ChainReady n b s)
    (hs : (s.page q).stage = .closing) (hstream : t.stream n = s.stream n) (hother : OtherPages [q] s t)
    (hstage : (t.page q).stage = .sealed) (howner : (t.page q).owner = (s.page q).owner)
    (hframe : (t.page q).frame = (s.page q).frame) : ChainReady n b t := by
  have hpending : ∀ p, Pending t n p → Pending s n p ∧ (t.page p).owner = (s.page p).owner
      ∧ (t.page p).frame = (s.page p).frame := fun p ⟨hring, hst⟩ => by
    rw [hstream] at hring
    by_cases hp : p = q
    · subst hp
      exact ⟨⟨hring, Or.inl hs⟩, howner, hframe⟩
    · have hpage := hother p (by simpa using hp)
      rw [hpage] at hst ⊢
      exact ⟨⟨hring, hst⟩, rfl, rfl⟩
  refine ⟨fun p hp => ?_, fun p hp => ?_, fun p hp => ?_, fun p r hp hr hne => ?_⟩
  · obtain ⟨hpend, ho, _⟩ := hpending p hp
    rw [ho]
    exact h.owned p hpend
  · rw [hstream] at hp
    have hne : p ≠ q := by
      rintro rfl
      obtain ⟨hpub, _⟩ := h.ready p hp
      rw [hs] at hpub
      cases hpub
    rw [hother p (by simpa using hne)]
    exact h.ready p hp
  · obtain ⟨hpend, _, hf⟩ := hpending p hp
    rw [hf]
    exact h.frames p hpend
  · obtain ⟨hpendp, _, hfp⟩ := hpending p hp
    obtain ⟨hpendr, _, hfr⟩ := hpending r hr
    rw [hfp, hfr]
    exact h.distinct p r hpendp hpendr hne

theorem endStop_raises {n : StreamId} {s : State} (hs : (s.stream n).state = .stopping) (hf : ringFree s n = true) :
    RaisedOnly { kind := .streamStopped, stream := some n } (s.modStream n fun st => { st with state := .off })
      (endStop n s) := by
  have he : endStop n s = (s.modStream n fun st => { st with state := .off }).raise (streamRecord .streamStopped n) :=
    if_pos (by rw [hs, hf]; rfl)
  rw [he]
  exact raise_raisedOnly _ _

/-- A count lowered by the model is one lowered in the words of R29 to R32 and R93, where a CLOSING page finds its stream
ready for the chain and a RETIRING page has no holder. -/
theorem lowerCount_countLowered {k : Access} {q : PageId} {n : StreamId} {b : Word32} {s : State}
    (ho : (s.page q).owner = some n)
    (hchain : (s.page q).stage = .closing →
      ChainReady n b ((s.modPage q (Page.lowerCount k)).modPage q fun pg => { pg with stage := .sealed }))
    (hheld : (s.page q).stage = .retiring → (s.page q).unheld = true) : CountLowered k q s (lowerCount k q s) := by
  have hpage : (s.modPage q (Page.lowerCount k)).page q = (s.page q).lowerCount k := modPage_page_same s q _
  have hkept : ((s.modPage q (Page.lowerCount k)).page q).stage = (s.page q).stage
      ∧ ((s.modPage q (Page.lowerCount k)).page q).owner = some n
      ∧ ((s.modPage q (Page.lowerCount k)).page q).unheld = (s.page q).unheld := by
    rw [hpage, Page.lowerCount_eq]
    exact ⟨rfl, ho, rfl⟩
  have hlowered : s.modPage q (Page.lowerCount k) = s.modPage q fun pg =>
      { pg with
        writeCount := if k = .write then pg.writeCount - 1 else pg.writeCount,
        readCount := if k = .read then pg.readCount - 1 else pg.readCount } :=
    modPage_congr (by cases k <;> rfl)
  have hstreams : ∀ m, (s.modPage q (Page.lowerCount k)).stream m = s.stream m := fun _ => rfl
  unfold lowerCount
  generalize s.modPage q (Page.lowerCount k) = v at *
  obtain ⟨hstage, howner, hunheld⟩ := hkept
  refine ⟨v, n, ho, hlowered, fun hs hk hzero => ?_, fun hs hw hr => ?_, fun hc hr => ?_⟩
  · subst hk
    rw [examinePage_seals (hstage.trans hs) hzero howner]
    exact runChain_chain (hchain hs)
  · rw [examinePage_frees (hstage.trans hs) ⟨hw, hr⟩ (hunheld.trans (hheld hs)) howner]
    refine ⟨_, rfl, fun ⟨hst, hfree⟩ => endStop_raises ?_ (ringFree_iff.2 ?_), fun hnot => ?_⟩
    · rw [modPage_stream, hstreams]
      exact hst
    · rw [modPage_stream, hstreams]
      exact hfree
    · unfold endStop
      rw [modPage_stream, hstreams]
      refine if_neg fun h => ?_
      rw [Bool.and_eq_true, beq_iff_eq, ringFree_iff, modPage_stream, hstreams] at h
      rcases hnot with hst | ⟨p, hp, hst⟩
      · exact hst h.1
      · exact hst (h.2 p hp)
  · rw [← hstage] at hc hr
    exact examinePage_rests hc hr

/-- The page of an entry in flight is assigned, so a stream owns it (R26, R28). -/
theorem PoolLaw.owner_of_inFlight {s : State} {e : EntryId} {g : Target} (h : PoolLaw s)
    (htarget : (s.entry e).target = some g) (hin : (s.entry e).inFlight = true) :
    ∃ n, (s.page g.page).owner = some n := by
  obtain ⟨⟨_, _, howner⟩, _, _, _, _, hstage, hcount⟩ := h
  have hpage : (s.entry e).target.map (·.page) = some g.page := by rw [htarget]; rfl
  have hflying : ∀ k, (s.entry e).kind = k → inFlightOn s k g.page ≠ 0 := fun k hk hzero => by
    rw [not_inFlight_of_count hzero hk hpage] at hin
    cases hin
  refine Option.ne_none_iff_exists'.1 fun hnone => ?_
  obtain ⟨_, hidle, _⟩ := hstage g.page
  obtain ⟨hwrite, hread⟩ := hidle (Or.inl ((howner g.page).1 hnone))
  obtain ⟨hw, hr⟩ := hcount g.page
  cases hk : (s.entry e).kind with
  | write => exact hflying .write hk (hw.symm.trans hwrite)
  | read => exact hflying .read hk (hr.symm.trans hread)

/-- A held page is PUBLISHED, so a RETIRING one is not held (R33, R59). -/
theorem PoolLaw.unheld_of_retiring {s : State} {q : PageId} (h : PoolLaw s) (hs : (s.page q).stage = .retiring) :
    (s.page q).unheld = true := by
  obtain ⟨_, _, _, hready, ⟨hholds, hheld⟩, _, _⟩ := h
  have hfree : ∀ x, (s.page q).holds x = false := fun x => Bool.eq_false_iff.2 fun hx => by
    obtain ⟨n, _, hslot⟩ := (hholds q x).1 hx
    obtain ⟨_, hpub⟩ := ((hready n).2 q).1 (hheld n x q hslot)
    rw [hs] at hpub
    cases hpub
  exact (Page.unheld_iff _).2 ⟨hfree .a, hfree .b⟩

/-- The reports of a completed piece leave stage, owner, frame number and holders of every page. -/
theorem pieceReported_pageKept (en : Entry) (pc : Piece) (c : Completion) (s : State) (q : PageId) :
    ∃ damaged, (pieceReported en pc c s).page q = { s.page q with damaged := damaged } := by
  unfold pieceReported failPiece reportDamage
  split
  · exact ⟨_, rfl⟩
  · split
    · rw [modPage_page]
      split
      · next hq =>
        rw [hq, Page.markDamaged_eq, raise_page]
        exact ⟨_, rfl⟩
      · rw [raise_page]
        exact ⟨_, rfl⟩
    · rw [raise_page]
      exact ⟨_, rfl⟩

theorem lowerTarget_rotationFrame (en : Entry) (s : State) : RotationFrame s (lowerTarget en s) := by
  unfold lowerTarget
  cases en.target with
  | none => exact RotationFrame.refl s
  | some g => exact lowerCount_frame _ _ _

/-! ## The whole event -/

/-- The part once the last piece of an ISSUED entry has been reported and the response prepared, before the count falls. -/
def answeredState (e : EntryId) (before : List Piece) (pc : Piece) (after : List Piece) (c : Completion) (s : State) : State :=
  (pieceReported (s.entry e) pc c s).modEntry e fun _ => ((s.entry e).concluded before pc after c).finish

section Answered

variable {c : Completion} {e : EntryId} {before after : List Piece} {pc : Piece} {s : State}

theorem settleEntry_answered (hissued : (s.entry e).state = .issued) :
    settleEntry e ((pieceReported (s.entry e) pc c s).modEntry e fun _ => (s.entry e).concluded before pc after c)
      = lowerTarget (s.entry e) (answeredState e before pc after c s) := by
  rw [settleEntry_issued (by rw [modEntry_entry_same]; exact hissued), modEntry_entry_same, modEntry_modEntry]
  rfl

/-- An ISSUED entry does not hold the datapath, so what holds it goes on doing so (R133). -/
theorem endQuiesce_answered (hissued : (s.entry e).state = .issued) (hq : QuiesceLaw s) :
    endQuiesce (lowerTarget (s.entry e) (answeredState e before pc after c s))
      = lowerTarget (s.entry e) (answeredState e before pc after c s) := by
  have hframe := lowerTarget_rotationFrame (s.entry e) (answeredState e before pc after c s)
  refine endQuiesce_held fun h => ?_
  have hdatapath : s.datapath = .quiescing := by
    rw [← pieceReported_datapath (s.entry e) pc c s, ← h, hframe.datapath]
    rfl
  obtain ⟨d, hd⟩ := hq.1 hdatapath
  have hne : d ≠ e := by
    rintro rfl
    simp [Entry.holdsQuiesce, hissued] at hd
  refine ⟨d, ?_⟩
  rw [State.entry, hframe.entries]
  change ((answeredState e before pc after c s).entry d).holdsQuiesce = true
  rw [answeredState, modEntry_entry_other _ hne, pieceReported_entry]
  exact hd

/-- In a safe state the count of the entry's page falls in the words of R29 to R32, R55 and R93. -/
theorem lowerTarget_answered {g : Target} (hpool : PoolLaw s) (hrecent : FramesRecent s) (horder : FramesInOrder s)
    (hin : (s.entry e).inFlight = true) (htarget : (s.entry e).target = some g) :
    CountLowered (s.entry e).kind g.page (answeredState e before pc after c s)
      (lowerTarget (s.entry e) (answeredState e before pc after c s)) := by
  obtain ⟨n, ho⟩ := hpool.owner_of_inFlight htarget hin
  obtain ⟨damaged, hpage⟩ := pieceReported_pageKept (s.entry e) pc c s g.page
  have hother : ∀ q, q ≠ g.page → (pieceReported (s.entry e) pc c s).page q = s.page q := fun q hq =>
    pieceReported_page pc c fun g' hg' hqg => by
      rw [htarget] at hg'
      cases hg'
      exact absurd hqg hq
  have hstream : (pieceReported (s.entry e) pc c s).stream n = s.stream n := by
    rw [State.stream, pieceReported_streams]
    rfl
  unfold lowerTarget answeredState
  rw [htarget]
  dsimp only
  generalize pieceReported (s.entry e) pc c s = a at *
  refine lowerCount_countLowered (n := n) (b := (s.stream n).nextFrame) ?_ (fun hs => ?_) fun hs => ?_
  · rw [modEntry_page, hpage]
    exact ho
  · rw [modEntry_page, hpage] at hs
    refine (hpool.chainReady hrecent horder n).resealed hs hstream (fun q hq => ?_) ?_ ?_ ?_
    · have hne : q ≠ g.page := by simpa using hq
      rw [modPage_page_other _ hne, modPage_page_other _ hne, modEntry_page, hother q hne]
    · rw [modPage_page_same]
    · rw [modPage_page_same, modPage_page_same, modEntry_page, hpage, Page.lowerCount_eq]
    · rw [modPage_page_same, modPage_page_same, modEntry_page, hpage, Page.lowerCount_eq]
  · rw [modEntry_page, hpage] at hs ⊢
    exact hpool.unheld_of_retiring hs

end Answered

/-- Settles O46: reports, response, count with the rotation controller behind it, and presentation; nothing ends a quiesce. -/
theorem onePieceCompletion : Obligations.OnePieceCompletion := by
  intro c e before after pc ok s hsafe hrecent horder hr htag hissued hpieces hout hlast hok
  obtain ⟨_, _, _, _, _, hpool, ⟨hentries, _⟩, hquiesce, _⟩ := hsafe
  obtain ⟨htwo, _⟩ := hentries e
  have hshort : before.length ≤ 1 := by
    rw [hpieces] at htwo
    simp at htwo
    omega
  have hin : (s.entry e).inFlight = true := (Entry.inFlight_iff _).2 ⟨pc, by simp [hpieces], Or.inr hout⟩
  have hexec := exec_lastPiece hpieces hshort (fun q hq => by rcases hlast q hq with k | k <;> simp [k]) hr htag hout
  rw [settleEntry_answered hissued, endQuiesce_answered hissued hquiesce] at hexec
  obtain ⟨x, hx, hpres⟩ := present_leaves (s.entry e).port
    (lowerTarget (s.entry e) (answeredState e before pc after c s))
  have hwas : ((lowerTarget (s.entry e) (answeredState e before pc after c s)).port (s.entry e).port).presented
      = (s.port (s.entry e).port).presented := by
    rw [State.port, (lowerTarget_rotationFrame _ _).ports]
    change ((pieceReported (s.entry e) pc c s).port (s.entry e).port).presented = _
    rw [pieceReported_port hok, if_pos rfl]
  rw [hwas] at hpres
  refine ⟨pieceReported (s.entry e) pc c s, answeredState e before pc after c s, _, _, _, hexec, testWaiting_retested _,
    pieceReported_completed hok s, fun hfail => ?_, modEntry_congr ?_, fun hnone => ?_,
    fun g hg => lowerTarget_answered hpool hrecent horder hin hg, ?_, hpres⟩
  · rw [pieceReported_failed hok s hfail]
    exact failPiece_reported _ _ _
  · rw [pieceReported_entry]
    exact Entry.concluded_finish hok hissued
  · unfold lowerTarget
    rw [hnone]
  · rw [hx, modPort_port_same]

end Sys2Proof.Machine

/-! PROOFS. The scheduler: SET-ARBITER (O19), an indication that finds every queue empty (O43), and which port an indication
grants (O44). -/

namespace Sys2Proof.Machine

/-! ## SET-ARBITER (R146) -/

theorem weightOk_iff {w : Byte} : weightOk w = true ↔ 1 ≤ w.toNat ∧ w.toNat ≤ 8 := by simp [weightOk]

/-- The part with these four weights set and every credit reloaded. -/
def reweighted (w0 w1 w2 w3 : Byte) (s : State) : State :=
  { s with ports := mapAll s.ports fun p po => po.weighted (weightOf w0 w1 w2 w3 p) }

theorem reweighted_port (w0 w1 w2 w3 : Byte) (s : State) (p : PortId) :
    (reweighted w0 w1 w2 w3 s).port p = (s.port p).weighted (weightOf w0 w1 w2 w3 p) := mapAll_get _ _ _

/-- SET-ARBITER is taken when all four weights are 1 to 8, and else refused. -/
theorem cmdSetArbiter_cases (w0 w1 w2 w3 : Byte) (s : State) :
    ((∀ w ∈ [w0, w1, w2, w3], 1 ≤ w.toNat ∧ w.toNat ≤ 8)
        ∧ cmdSetArbiter w0 w1 w2 w3 s = Answer.done (reweighted w0 w1 w2 w3 s))
      ∨ ((∃ w ∈ [w0, w1, w2, w3], w.toNat = 0 ∨ 8 < w.toNat)
        ∧ cmdSetArbiter w0 w1 w2 w3 s = Answer.refuse .badArg s) := by
  have htest : (weightOk w0 && weightOk w1 && weightOk w2 && weightOk w3) = true
      ↔ ∀ w ∈ [w0, w1, w2, w3], 1 ≤ w.toNat ∧ w.toNat ≤ 8 := by
    simp [weightOk_iff, and_assoc]
  unfold cmdSetArbiter
  split
  · next h => exact Or.inl ⟨htest.1 h, rfl⟩
  · next h =>
    rw [htest, not_forall] at h
    obtain ⟨w, h⟩ := h
    rw [Classical.not_imp] at h
    exact Or.inr ⟨⟨w, h.1, by omega⟩, rfl⟩

theorem exec_setArbiter (w0 w1 w2 w3 : Byte) (f : FrameTail) {s : State} (h : PortReady s) :
    exec (.setArbiter w0 w1 w2 w3 f) s =
      .next (answerFrame ([0x40, w0, w1, w2, w3] ++ f.extra) (cmdSetArbiter w0 w1 w2 w3) s) :=
  congrArg Host.Outcome.next (frameEnd_ready h)

/-- Settles O19: a weight out of range refuses the command, and otherwise only the ports are written. -/
theorem setArbiterReloads : Obligations.SetArbiterReloads := by
  intro w0 w1 w2 w3 f s hready
  have hexec := exec_setArbiter w0 w1 w2 w3 f hready
  rcases cmdSetArbiter_cases w0 w1 w2 w3 (shiftFrame ([0x40, w0, w1, w2, w3] ++ f.extra) s) with
    ⟨hall, hdone⟩ | ⟨⟨v, hv, hrange⟩, hrefuse⟩
  · refine ⟨fun ⟨w, hw, hbad⟩ => ?_, fun _ => ?_⟩
    · have hgood := hall w hw
      omega
    · obtain ⟨hstate, hframed⟩ := answered_of (i := .setArbiter w0 w1 w2 w3 f) (data := []) rfl hdone
        ⟨rfl, rfl, rfl, rfl, rfl, rfl⟩
      have hport := reweighted_port w0 w1 w2 w3 s
      rw [hstate] at hexec
      exact ⟨_, hexec, hframed, hport 0, hport 1, hport 2, hport 3, rfl, rfl, rfl, rfl, rfl, ⟨rfl, rfl⟩,
        ⟨rfl, rfl, rfl, rfl, rfl⟩⟩
  · refine ⟨fun _ => refused_of rfl hexec hrefuse, fun hall => ?_⟩
    have hgood := hall v hv
    omega

/-! ## INDICATION (R140) -/

theorem exec_indication (urg : UrgLevels) {s : State} (hr : s.resetn = true) :
    exec (.indication urg) s = .next (testWaiting (runGrants (countIndication (seeUrg urg s)))) := by
  show Host.Outcome.next (if s.resetn then _ else _) = _
  rw [if_pos hr]

/-- With every queue empty no grant is made (R140). -/
theorem grantLoop_empty (fuel : Nat) {s : State} (h : ∀ p, (s.port p).queue = []) : grantLoop fuel s = s := by
  cases fuel with
  | zero => rfl
  | succ fuel =>
    have hnone : anyQueued s = false := by simp [anyQueued, h]
    rw [grantLoop, hnone, Bool.and_false, if_neg Bool.false_ne_true]

/-- Settles O43: the indication is counted and, with nothing queued, no grant follows. -/
theorem indicationStands : Obligations.IndicationStands := by
  intro urg s hr hempty
  have hexec := exec_indication urg hr
  have hgrants : runGrants (countIndication (seeUrg urg s)) = countIndication (seeUrg urg s) := grantLoop_empty _ hempty
  rw [hgrants] at hexec
  exact ⟨_, _, hexec, testWaiting_retested _, rfl, rfl, rfl, rfl, rfl, rfl, rfl, ⟨rfl, rfl⟩, ⟨rfl, rfl, rfl, rfl, rfl⟩,
    ⟨rfl, rfl, rfl, rfl, rfl, rfl⟩⟩

/-! ## The class of a grant and the search in it (R143, R144) -/

/-- Port p is a member of the class that the next grant is made in: it has a piece queued, and its line is high or no
urgent port has one (R143). -/
def InGrantClass (s : State) (p : PortId) : Prop :=
  (s.port p).queue ≠ [] ∧ (s.urg p = true ∨ ∀ q, s.urg q = true → (s.port q).queue = [])

theorem memberOf_grantClass_iff (s : State) (p : PortId) : memberOf s (grantClass s) p = true ↔ InGrantClass s p := by
  have hmember : ∀ urgent q, memberOf s urgent q = true ↔ s.urg q = urgent ∧ (s.port q).queue ≠ [] := fun urgent q => by
    simp [memberOf]
  rw [hmember, InGrantClass]
  by_cases hurgent : ∃ q, s.urg q = true ∧ (s.port q).queue ≠ []
  · have hclass : grantClass s = true := by simpa [grantClass, hmember] using hurgent
    obtain ⟨q, hq, hqueue⟩ := hurgent
    rw [hclass, and_comm]
    exact and_congr_right fun _ => ⟨Or.inl, fun h => h.resolve_right fun hnone => hqueue (hnone q hq)⟩
  · have hclass : grantClass s = false := by
      rw [← Bool.not_eq_true]
      simpa [grantClass, hmember] using hurgent
    have hnone : ∀ q, s.urg q = true → (s.port q).queue = [] := fun q hq => by
      by_contra hqueue
      exact hurgent ⟨q, hq, hqueue⟩
    rw [hclass]
    refine ⟨fun h => ⟨h.2, Or.inr hnone⟩, fun h => ⟨?_, h.1⟩⟩
    rw [← Bool.not_eq_true]
    exact fun hp => h.1 (hnone p hp)

/-- Some port is in the class whenever a piece is queued (R143). -/
theorem exists_inGrantClass {s : State} {p : PortId} (h : (s.port p).queue ≠ []) : ∃ q, InGrantClass s q := by
  by_cases hurgent : ∃ q, s.urg q = true ∧ (s.port q).queue ≠ []
  · obtain ⟨q, hq, hqueue⟩ := hurgent
    exact ⟨q, hqueue, Or.inl hq⟩
  · refine ⟨p, h, Or.inr fun q hq => ?_⟩
    by_contra hqueue
    exact hurgent ⟨q, hq, hqueue⟩

/-- A reload changes no class. -/
theorem inGrantClass_reloadCredits (s : State) (p : PortId) : InGrantClass (reloadCredits s) p ↔ InGrantClass s p := by
  have hurg : ∀ q, (reloadCredits s).urg q = s.urg q := fun _ => rfl
  simp [InGrantClass, hurg]

/-- What the search looks for in rotation order (R144 step 1). -/
theorem searchGrant_test (s : State) (p : PortId) :
    (memberOf s (grantClass s) p && decide (0 < (s.port p).credit)) = true
      ↔ InGrantClass s p ∧ 0 < (s.port p).credit := by
  rw [Bool.and_eq_true, memberOf_grantClass_iff, decide_eq_true_iff]

theorem searchGrant_found {s : State} {p : PortId} (h : searchGrant s = some p) :
    InGrantClass s p ∧ 0 < (s.port p).credit := by
  have htest := List.find?_some h
  exact (searchGrant_test s p).1 htest

theorem searchGrant_eq_none {s : State} : searchGrant s = none ↔ ∀ p, InGrantClass s p → (s.port p).credit = 0 := by
  unfold searchGrant
  simp only [List.find?_eq_none, searchGrant_test, not_and, Nat.not_lt, Nat.le_zero]
  exact ⟨fun h p => h p (mem_rotationFrom _ _), fun h p _ => h p⟩

/-- Rotation order is pointer, pointer + 1, and so on (R142). -/
theorem rotationFrom_eq (a : PortId) : rotationFrom a = (List.range 4).map fun k => a + Fin.ofNat 4 k := by
  revert a
  decide

/-- The search finds the first port from the pointer on that meets it. -/
theorem searchGrant_first {s : State} {g : PortId} (hg : InGrantClass s g ∧ 0 < (s.port g).credit)
    (hfirst : ∀ k : Nat, k < (g - s.pointer).val →
      ¬ (InGrantClass s (s.pointer + Fin.ofNat 4 k) ∧ 0 < (s.port (s.pointer + Fin.ofNat 4 k)).credit)) :
    searchGrant s = some g := by
  have hplace : s.pointer + Fin.ofNat 4 (g - s.pointer).val = g := by simp
  unfold searchGrant
  rw [rotationFrom_eq, List.find?_map, Option.map_eq_some_iff]
  refine ⟨(g - s.pointer).val,
    List.find?_range_eq_some.2 ⟨?_, List.mem_range.2 (g - s.pointer).isLt, fun k hk => ?_⟩, hplace⟩
  · rw [Function.comp_apply, hplace]
    exact (searchGrant_test s g).2 hg
  · rw [Function.comp_apply, Bool.not_eq_true', ← Bool.not_eq_true, searchGrant_test]
    exact hfirst k hk

/-! ## The grant of an indication (R124, R139, R140, R144) -/

/-- A grant goes to the first member with credit from the pointer on; where the class has none, it is made from reloaded
credits (R144). -/
theorem grant_first {s : State} {g : PortId} (hg : InGrantClass s g) (hw : 1 ≤ (s.port g).weight)
    (hfirst : (0 < (s.port g).credit ∧ ∀ k : Nat, k < (g - s.pointer).val →
        ¬ (InGrantClass s (s.pointer + Fin.ofNat 4 k) ∧ 0 < (s.port (s.pointer + Fin.ofNat 4 k)).credit))
      ∨ ((∀ p, InGrantClass s p → (s.port p).credit = 0) ∧ ∀ k : Nat, k < (g - s.pointer).val →
        ¬ InGrantClass s (s.pointer + Fin.ofNat 4 k))) :
    grant s = grantPort g (credited g s) := by
  unfold grant credited
  rcases hfirst with ⟨hcredit, hfirst⟩ | ⟨hspent, hfirst⟩
  · simp only [searchGrant_first ⟨hg, hcredit⟩ hfirst, if_neg hcredit.ne']
  · have hreload : searchGrant (reloadCredits s) = some g := by
      refine searchGrant_first ⟨(inGrantClass_reloadCredits s g).2 hg, ?_⟩ fun k hk hmember => ?_
      · rw [reloadCredits_port]
        exact hw
      · exact hfirst k hk ((inGrantClass_reloadCredits s _).1 hmember.1)
    simp only [searchGrant_eq_none.2 hspent, hreload, if_pos (hspent g hg)]

/-- A queued piece is there to be sent (R137). -/
theorem TableLaw.queued_piece {s : State} (h : TableLaw s) {p : PortId} {r : PieceRef} (hr : r ∈ (s.port p).queue) :
    ∃ pc, (s.entry r.entry).piece r.second = some pc := by
  obtain ⟨_, _, hqueues, _⟩ := tableLaw_iff.1 h
  obtain ⟨_, _, hmem⟩ := hqueues p
  obtain ⟨_, _, hstatus⟩ := (hmem r).1 hr
  obtain ⟨pc, hpc, _⟩ := Option.map_eq_some_iff.1 hstatus
  exact ⟨pc, hpc⟩

/-- One unused indication and a queued piece make one grant (R140). -/
theorem runGrants_once {s : State} {p : PortId} (hind : s.indications = 1) (hq : (s.port p).queue ≠ []) :
    runGrants s = grant s := by
  have hqueued : anyQueued s = true := (anyQueued_iff s).2 ⟨p, hq⟩
  rw [runGrants, hind, grantLoop, hind, hqueued]
  rfl

/-- Settles O44: the indication is the only unused one, so one grant is made, to the port that the search finds. -/
theorem grantFollowsCreditAndRotation : Obligations.GrantFollowsCreditAndRotation := by
  intro urg s g member hr hind htable hmember hweight hg hfirst
  obtain rfl : member = InGrantClass (seeUrg urg s) := funext fun p => propext (hmember p)
  have hcounted : countIndication (seeUrg urg s) = { s with indications := 1, links := { s.links with urg := urg } } := by
    unfold countIndication seeUrg
    rw [hind]
    rfl
  have hqueue : (s.port g).queue ≠ [] := hg.1
  have hgrant : runGrants (countIndication (seeUrg urg s)) = grantPort g (credited g (countIndication (seeUrg urg s))) :=
    (runGrants_once (congrArg State.indications hcounted) hqueue).trans (grant_first hg (hweight g) hfirst)
  obtain ⟨r, rest, hcons⟩ := List.exists_cons_of_ne_nil hqueue
  obtain ⟨pc, hpc⟩ := htable.queued_piece (hcons ▸ List.mem_cons_self ..)
  refine ⟨_, _, exec_indication urg hr, testWaiting_retested _, ?_⟩
  rw [← hcounted, hgrant]
  exact grantPort_grantTo hcons hpc

end Sys2Proof.Machine

/-! PROOFS. Every step keeps the law of the scheduler (O53): what a step can do to weights, credits, queues and unused
indications. -/

namespace Sys2Proof.Machine

/-! ## What the law of the scheduler reads (R140, R142) -/

/-- Weights, credits, issue queues and unused indications are as they were. -/
structure SameScheduler (s t : State) : Prop where
  weight : ∀ p, (t.port p).weight = (s.port p).weight
  credit : ∀ p, (t.port p).credit = (s.port p).credit
  queue : ∀ p, (t.port p).queue = (s.port p).queue
  indications : t.indications = s.indications

theorem SameScheduler.refl (s : State) : SameScheduler s s := ⟨fun _ => rfl, fun _ => rfl, fun _ => rfl, rfl⟩

theorem SameScheduler.trans {s t u : State} (h : SameScheduler s t) (k : SameScheduler t u) : SameScheduler s u :=
  ⟨fun p => (k.weight p).trans (h.weight p), fun p => (k.credit p).trans (h.credit p),
    fun p => (k.queue p).trans (h.queue p), k.indications.trans h.indications⟩

theorem SameScheduler.of_ports {s t : State} (hp : t.ports = s.ports) (hi : t.indications = s.indications) :
    SameScheduler s t := by
  have hport : ∀ p, t.port p = s.port p := fun p => congrArg (fun v => Vector.get v p) hp
  exact ⟨fun p => by rw [hport], fun p => by rw [hport], fun p => by rw [hport], hi⟩

theorem RotationFrame.sameScheduler {s t : State} (h : RotationFrame s t) : SameScheduler s t :=
  SameScheduler.of_ports h.ports h.indications

theorem SameScheduler.modPort {s : State} {p : PortId} {f : Port → Port} (hw : (f (s.port p)).weight = (s.port p).weight)
    (hc : (f (s.port p)).credit = (s.port p).credit) (hq : (f (s.port p)).queue = (s.port p).queue) :
    SameScheduler s (s.modPort p f) := by
  refine ⟨fun q => ?_, fun q => ?_, fun q => ?_, rfl⟩ <;>
    · rw [modPort_port]
      split
      · next hqp => rw [hqp]; assumption
      · rfl

/-- Weights are 1 to 8 and no credit exceeds its weight (R142). -/
def SharesLaw (s : State) : Prop :=
  ∀ p : PortId, 1 ≤ (s.port p).weight ∧ (s.port p).weight ≤ 8 ∧ (s.port p).credit ≤ (s.port p).weight

theorem arbiterLaw_iff {s : State} :
    ArbiterLaw s ↔ SharesLaw s ∧ s.indications ≤ 96 ∧ (s.indications = 0 ∨ ∀ p, (s.port p).queue = []) := Iff.rfl

theorem SharesLaw.congr {s t : State} (h : SharesLaw s) (hw : ∀ p, (t.port p).weight = (s.port p).weight)
    (hc : ∀ p, (t.port p).credit = (s.port p).credit) : SharesLaw t := fun p => by
  rw [hw, hc]
  exact h p

theorem ArbiterLaw.same {s t : State} (h : ArbiterLaw s) (k : SameScheduler s t) : ArbiterLaw t := by
  obtain ⟨hshares, hind, hidle⟩ := arbiterLaw_iff.1 h
  refine arbiterLaw_iff.2 ⟨hshares.congr k.weight k.credit, ?_, ?_⟩ <;> rw [k.indications]
  · exact hind
  · exact hidle.imp_right fun hempty p => (k.queue p).trans (hempty p)

/-! ## Grants (R140, R144) -/

/-- While a piece is queued a grant finds a port: some member of the class has credit, at the latest after a reload. -/
theorem grant_serves {s : State} {p : PortId} (hw : ∀ q, 1 ≤ (s.port q).weight) (hq : (s.port p).queue ≠ []) :
    ∃ g, (s.port g).queue ≠ [] ∧ (grant s = grantPort g s ∨ grant s = grantPort g (reloadCredits s)) := by
  rcases grant_cases s with ⟨g, hfound, hgrant⟩ | ⟨_, g, hfound, hgrant⟩ | ⟨_, hnone, _⟩
  · obtain ⟨⟨hqueue, _⟩, _⟩ := searchGrant_found hfound
    exact ⟨g, hqueue, Or.inl hgrant⟩
  · obtain ⟨hclass, _⟩ := searchGrant_found hfound
    obtain ⟨hqueue, _⟩ := (inGrantClass_reloadCredits s g).1 hclass
    exact ⟨g, hqueue, Or.inr hgrant⟩
  · obtain ⟨g, hg⟩ := exists_inGrantClass hq
    have hspent := searchGrant_eq_none.1 hnone g ((inGrantClass_reloadCredits s g).2 hg)
    rw [reloadCredits_port] at hspent
    exact absurd hspent (Nat.ne_of_gt (hw g))

theorem sendPiece_sameScheduler (r : PieceRef) (s : State) : SameScheduler s (sendPiece r s) := by
  unfold sendPiece
  split <;> exact SameScheduler.of_ports rfl rfl

/-- A grant to a port with a piece queued spends credit, and uses one indication. -/
theorem grantPort_shares {s : State} {g : PortId} (h : SharesLaw s) (hq : (s.port g).queue ≠ []) :
    SharesLaw (grantPort g s) ∧ (grantPort g s).indications = s.indications - 1 := by
  obtain ⟨r, rest, hcons⟩ := List.exists_cons_of_ne_nil hq
  unfold grantPort
  rw [hcons]
  dsimp only
  have hsent := fun u => sendPiece_sameScheduler r u
  refine ⟨SharesLaw.congr ?_ (hsent _).weight (hsent _).credit, (hsent _).indications⟩
  have hspent : SharesLaw (s.modPort g fun po => { po with queue := rest, credit := po.credit - 1 }) := fun q => by
    rw [modPort_port]
    split
    · obtain ⟨hlow, hhigh, hcredit⟩ := h g
      exact ⟨hlow, hhigh, (Nat.sub_le _ _).trans hcredit⟩
    · exact h q
  exact hspent

theorem reloadCredits_shares {s : State} (h : SharesLaw s) : SharesLaw (reloadCredits s) := fun p => by
  obtain ⟨hlow, hhigh, _⟩ := h p
  rw [reloadCredits_port]
  exact ⟨hlow, hhigh, le_rfl⟩

theorem grant_shares {s : State} {p : PortId} (h : SharesLaw s) (hq : (s.port p).queue ≠ []) :
    SharesLaw (grant s) ∧ (grant s).indications = s.indications - 1 := by
  obtain ⟨g, hqueue, hgrant | hgrant⟩ := grant_serves (fun q => (h q).1) hq <;> rw [hgrant]
  · exact grantPort_shares h hqueue
  · refine grantPort_shares (reloadCredits_shares h) ?_
    rw [reloadCredits_port]
    exact hqueue

/-- Grants go on until no indication is unused or no piece is queued, whatever they begin with (R140). -/
theorem runGrants_arbiter {s : State} (h : SharesLaw s) (hind : s.indications ≤ 96) : ArbiterLaw (runGrants s) := by
  unfold runGrants
  generalize hfuel : s.indications = fuel
  induction fuel generalizing s with
  | zero => exact arbiterLaw_iff.2 ⟨h, hind, Or.inl hfuel⟩
  | succ fuel ih =>
    rw [grantLoop, hfuel]
    by_cases hqueued : ∃ p, (s.port p).queue ≠ []
    · obtain ⟨p, hq⟩ := hqueued
      obtain ⟨hshares, hused⟩ := grant_shares h hq
      rw [hfuel] at hused
      rw [(anyQueued_iff s).2 ⟨p, hq⟩]
      exact ih hshares (by omega) hused
    · have hidle : anyQueued s = false := by rwa [← Bool.not_eq_true, anyQueued_iff]
      rw [hidle]
      exact arbiterLaw_iff.2 ⟨h, hind, Or.inr fun p => by
        by_contra hq
        exact hqueued ⟨p, hq⟩⟩

/-! ## Acceptance and the re-test (R101, R122, R123) -/

theorem accepted_shares {s : State} (e : EntryId) (p : PortId) (r : Request) (d : Decision) (h : SharesLaw s) :
    SharesLaw (accepted e p r d s) := by
  obtain ⟨x, hx⟩ := accepted_eq e p r d s
  intro q
  rw [hx, modPort_port, acceptInto_port, acceptInto_port, if_pos rfl]
  split
  · exact h p
  · exact h q

/-- Whatever an accepted request appends, the grants behind it leave no indication unused beside a queued piece. -/
theorem acceptHead_arbiter {s : State} (p : PortId) (r : Request) (h : ArbiterLaw s) : ArbiterLaw (acceptHead p r s) := by
  unfold acceptHead
  cases acceptEntry s p r with
  | none => exact h.same (SameScheduler.of_ports rfl rfl)
  | some e =>
    obtain ⟨hshares, hind, _⟩ := arbiterLaw_iff.1 h
    obtain ⟨_, hkept, _⟩ := accepted_frame e p r (steer s p r) (setWaiting p none s)
    have haccepted : SharesLaw (accepted e p r (steer s p r) (setWaiting p none s)) :=
      accepted_shares e p r _ (hshares.congr (fun _ => rfl) fun _ => rfl)
    exact runGrants_arbiter haccepted (hkept.trans_le hind)

theorem testWaiting_arbiter {s : State} (h : ArbiterLaw s) : ArbiterLaw (testWaiting s) := by
  have hretested : ∀ u v, Retested u v → ArbiterLaw u → ArbiterLaw v := fun u v k => by
    induction k with
    | done => exact id
    | accept _ _ p r _ _ _ ih => exact fun hu => ih (acceptHead_arbiter p r hu)
  exact hretested _ _ (testWaiting_retested s) h

/-! ## Completion and delivery leave the scheduler alone (R126, R127, R129, R132) -/

theorem present_sameScheduler (p : PortId) (s : State) : SameScheduler s (present p s) := by
  rcases present_cases p s with ⟨_, _, h⟩ | ⟨_, h⟩ <;> rw [h]
  · exact SameScheduler.refl s
  · exact SameScheduler.modPort rfl rfl rfl

theorem endQuiesce_sameScheduler (s : State) : SameScheduler s (endQuiesce s) := by
  rw [endQuiesce_only]
  exact SameScheduler.of_ports rfl rfl

theorem freeEntry_sameScheduler (e : EntryId) (s : State) : SameScheduler s (freeEntry e s) :=
  (SameScheduler.modPort (f := fun po => { po with order := po.order.filter (· != e) }) rfl rfl rfl).trans
    (SameScheduler.of_ports rfl rfl)

theorem lowerTarget_sameScheduler (en : Entry) (s : State) : SameScheduler s (lowerTarget en s) := by
  unfold lowerTarget
  cases en.target with
  | none => exact SameScheduler.refl s
  | some t => exact (lowerCount_frame _ _ s).sameScheduler

theorem settleDone_sameScheduler (e : EntryId) (s : State) : SameScheduler s (settleDone e s) := by
  unfold settleDone
  split
  · exact SameScheduler.refl s
  unfold settleEntry
  dsimp only
  cases (s.entry e).state with
  | free => exact SameScheduler.refl s
  | queued => exact SameScheduler.refl s
  | issued =>
    exact SameScheduler.trans (t := s.modEntry e Entry.finish) (SameScheduler.of_ports rfl rfl)
      (lowerTarget_sameScheduler _ _)
  | doneWaiting => exact lowerTarget_sameScheduler _ s
  | orphaned => exact (freeEntry_sameScheduler e s).trans (lowerTarget_sameScheduler _ _)

theorem pieceReported_sameScheduler (en : Entry) (pc : Piece) (c : Completion) (s : State) :
    SameScheduler s (pieceReported en pc c s) := by
  have hraised : SameScheduler s
      ((s.modPort en.port fun po => { po with faults := po.faults + 1 }).raise (faultRecord en pc)) :=
    (SameScheduler.modPort rfl rfl rfl).trans (raise_frame _ _).sameScheduler
  unfold pieceReported
  split
  · exact SameScheduler.refl s
  · unfold failPiece reportDamage
    split
    · exact hraised.trans (modPage_frame _ _ _).sameScheduler
    · exact hraised

theorem completePiece_sameScheduler (r : PieceRef) (pc : Piece) (c : Completion) (s : State) :
    SameScheduler s (completePiece r pc c s) := by
  rw [completePiece_eq]
  refine SameScheduler.trans ?_ (present_sameScheduler _ _)
  refine SameScheduler.trans ?_ (endQuiesce_sameScheduler _)
  refine SameScheduler.trans ?_ (settleDone_sameScheduler _ _)
  exact (pieceReported_sameScheduler _ pc c s).trans (SameScheduler.of_ports rfl rfl)

theorem sendResponse_sameScheduler (p : PortId) (e : EntryId) (s : State) : SameScheduler s (sendResponse p e s) := by
  unfold sendResponse
  split <;> exact SameScheduler.of_ports rfl rfl

theorem retireEntry_sameScheduler (e : EntryId) (s : State) : SameScheduler s (retireEntry e s) := by
  unfold retireEntry
  split
  · exact SameScheduler.of_ports rfl rfl
  · exact freeEntry_sameScheduler e s

/-! ## Commands (R146, R148, R162) -/

theorem weightOf_mem (w0 w1 w2 w3 : Byte) (p : PortId) : weightOf w0 w1 w2 w3 p ∈ [w0, w1, w2, w3] := by
  unfold weightOf
  split <;> simp

/-- The new credits are the new weights, which are in range (R146). -/
theorem cmdSetArbiter_arbiter (w0 w1 w2 w3 : Byte) {s : State} (h : ArbiterLaw s) :
    ArbiterLaw (cmdSetArbiter w0 w1 w2 w3 s).state := by
  rcases cmdSetArbiter_cases w0 w1 w2 w3 s with ⟨hall, hdone⟩ | ⟨_, hrefuse⟩
  · have hport := reweighted_port w0 w1 w2 w3 s
    have hshares : SharesLaw (reweighted w0 w1 w2 w3 s) := fun p => by
      obtain ⟨hlow, hhigh⟩ := hall _ (weightOf_mem w0 w1 w2 w3 p)
      rw [hport]
      exact ⟨hlow, hhigh, le_rfl⟩
    have hqueue : ∀ p, ((reweighted w0 w1 w2 w3 s).port p).queue = (s.port p).queue := fun p => by
      rw [hport]
      rfl
    obtain ⟨_, hind, hidle⟩ := arbiterLaw_iff.1 h
    rw [hdone]
    exact arbiterLaw_iff.2 ⟨hshares, hind, hidle.imp_right fun hempty p => (hqueue p).trans (hempty p)⟩
  · rw [hrefuse]
    exact h

theorem resetTables_arbiter {s : State} (h : ArbiterLaw s) : ArbiterLaw (resetTables s) := by
  obtain ⟨hshares, hind, _⟩ := arbiterLaw_iff.1 h
  refine arbiterLaw_iff.2 ⟨hshares.congr (fun p => ?_) fun p => ?_, hind, Or.inr fun p => ?_⟩ <;>
    · rw [resetTables_port]
      rfl

theorem setQuiescing_sameScheduler (s : State) : SameScheduler s (setQuiescing s) := by
  unfold setQuiescing
  split
  · exact SameScheduler.of_ports rfl rfl
  · exact SameScheduler.of_ports (raise_ports _ _) (raise_indications _ _)

/-- A datapath reset empties the queues and leaves shares and indications (R148). -/
theorem cmdDatapathReset_arbiter (b : Byte) {s : State} (h : ArbiterLaw s) :
    ArbiterLaw (cmdDatapathReset b s).state := by
  unfold cmdDatapathReset
  split
  · have hpresented : SameScheduler (resetTables s) (presentAll (resetTables s)) :=
      (((present_sameScheduler 0 _).trans (present_sameScheduler 1 _)).trans (present_sameScheduler 2 _)).trans
        (present_sameScheduler 3 _)
    exact (resetTables_arbiter h).same (hpresented.trans (setQuiescing_sameScheduler _))
  · exact h

section SameScheduler

variable (s : State)

theorem cmdSetStream_sameScheduler (a : SetStreamArgs) : SameScheduler s (cmdSetStream a s).state := by
  rcases cmdSetStream_state a s with e | ⟨_, _, _, _, e⟩ <;> rw [e] <;> exact SameScheduler.of_ports rfl rfl

theorem cmdClearStream_sameScheduler (b : Byte) : SameScheduler s (cmdClearStream b s).state := by
  rcases cmdClearStream_state b s with e | ⟨_, _, e⟩ <;> rw [e] <;> exact SameScheduler.of_ports rfl rfl

theorem cmdSetConsumer_sameScheduler (a : SetConsumerArgs) : SameScheduler s (cmdSetConsumer a s).state := by
  rcases cmdSetConsumer_state a s with e | ⟨_, _, _, e | ⟨_, e⟩⟩ <;> rw [e] <;> exact SameScheduler.of_ports rfl rfl

theorem cmdAssignPage_sameScheduler (a : AssignPageArgs) : SameScheduler s (cmdAssignPage a s).state := by
  rcases cmdAssignPage_state a s with e | ⟨_, _, _, _, _, _, _, e⟩ <;> rw [e] <;> exact SameScheduler.of_ports rfl rfl

theorem cmdUnassignPage_sameScheduler (b : Byte) : SameScheduler s (cmdUnassignPage b s).state := by
  rcases cmdUnassignPage_state b s with e | ⟨_, _, _, _, _, e⟩ <;> rw [e] <;> exact SameScheduler.of_ports rfl rfl

theorem cmdStartStream_sameScheduler (b : Byte) : SameScheduler s (cmdStartStream b s).state := by
  rcases cmdStartStream_state b s with e | ⟨_, _, _, _, _, _, _, e⟩ <;> rw [e] <;> exact SameScheduler.of_ports rfl rfl

theorem cmdStopStream_sameScheduler (b : Byte) : SameScheduler s (cmdStopStream b s).state := by
  unfold cmdStopStream
  split
  · exact SameScheduler.refl s
  · split
    case h_4 => exact (stopRunning_frame _ s).sameScheduler
    all_goals exact SameScheduler.refl s

theorem cmdFreeze_sameScheduler (b t o : Byte) : SameScheduler s (cmdFreeze b t o s).state := by
  unfold cmdFreeze
  split
  · next target _ _ _ _ =>
    split
    · exact SameScheduler.refl s
    · cases target <;> exact SameScheduler.of_ports rfl rfl
  · exact SameScheduler.refl s

theorem cmdSetEvents_sameScheduler (w : Byte) (m : Word16) : SameScheduler s (cmdSetEvents w m s).state := by
  unfold cmdSetEvents
  split <;> exact SameScheduler.of_ports rfl rfl

theorem cmdPopEvents_sameScheduler (k : Byte) : SameScheduler s (cmdPopEvents k s).state := by
  unfold cmdPopEvents
  split <;> exact SameScheduler.of_ports rfl rfl

theorem cmdReadStream_sameScheduler (b : Byte) : SameScheduler s (cmdReadStream b s).state := by
  unfold cmdReadStream
  split <;> exact SameScheduler.refl s

theorem cmdReadPage_sameScheduler (b : Byte) : SameScheduler s (cmdReadPage b s).state := by
  unfold cmdReadPage
  split <;> exact SameScheduler.refl s

theorem clearGroup_sameScheduler (g : CounterGroup) : SameScheduler s (clearGroup g s) := by
  cases g with
  | stream _ => exact SameScheduler.of_ports rfl rfl
  | slot _ _ => exact SameScheduler.of_ports rfl rfl
  | port p =>
    exact SameScheduler.modPort (p := p) (f := fun po => { po with accepted := 0, refused := 0, faults := 0 }) rfl rfl rfl
  | device => exact SameScheduler.of_ports rfl rfl

theorem cmdReadCounters_sameScheduler (g n x c : Byte) : SameScheduler s (cmdReadCounters g n x c s).state := by
  unfold cmdReadCounters
  split
  · next g c _ _ =>
    cases c
    · exact SameScheduler.refl s
    · exact clearGroup_sameScheduler s g
  · exact SameScheduler.refl s

end SameScheduler

/-! ## Every event -/

section Events

variable {s : State} (h : ArbiterLaw s)
include h

theorem boundary_arbiter (n : StreamId) : ArbiterLaw (boundary n s) := by
  unfold boundary
  split
  · exact testWaiting_arbiter (h.same (takenBoundary_frame n s).sameScheduler)
  · exact h

theorem take_arbiter (n : StreamId) (x : SlotId) : ArbiterLaw (take n x s) := by
  unfold take
  split
  · split
    · exact h.same (modSlot_frame s n x _).sameScheduler
    · cases candidate s n x with
      | none => exact h.same (repeatTake_frame n x s).sameScheduler
      | some c => exact testWaiting_arbiter (h.same (successfulTake_frame n x c s).sameScheduler)
  · exact h

/-- An indication is counted up to 96, and then used while a piece is queued (R140). -/
theorem indication_arbiter (urg : UrgLevels) : ArbiterLaw (runGrants (countIndication (seeUrg urg s))) := by
  obtain ⟨hshares, _, _⟩ := arbiterLaw_iff.1 h
  exact runGrants_arbiter (hshares.congr (fun _ => rfl) fun _ => rfl) (Nat.min_le_right _ _)

theorem complete_arbiter (c : Completion) : ArbiterLaw (complete c s) := by
  unfold complete
  cases outstandingPiece s c with
  | none => exact h.same (SameScheduler.of_ports rfl rfl)
  | some x => exact testWaiting_arbiter (h.same (completePiece_sameScheduler x.1 x.2 c s))

theorem deliver_arbiter (p : PortId) : ArbiterLaw (deliver p s) := by
  unfold deliver
  cases (s.port p).presented with
  | none => exact h
  | some e =>
    have hretired := (sendResponse_sameScheduler p e s).trans (retireEntry_sameScheduler e _)
    have hwithdrawn : SameScheduler s
        ((retireEntry e (sendResponse p e s)).modPort p fun po => { po with presented := none }) :=
      hretired.trans (SameScheduler.modPort rfl rfl rfl)
    exact testWaiting_arbiter
      (h.same ((hwithdrawn.trans (endQuiesce_sameScheduler _)).trans (present_sameScheduler p _)))

/-- A frame writes the response and the record of what went out, and its command does the rest. -/
theorem answerFrame_arbiter {bytes : List Byte} {command : State → Answer}
    (hc : ∀ u, ArbiterLaw u → ArbiterLaw (command u).state) : ArbiterLaw (answerFrame bytes command s) :=
  (hc (shiftFrame bytes s) (h.same (SameScheduler.of_ports rfl rfl))).same (SameScheduler.of_ports rfl rfl)

theorem frameEnd_arbiter {bytes : List Byte} {command : State → Answer}
    (hc : ∀ u, ArbiterLaw u → ArbiterLaw (command u).state) : ArbiterLaw (frameEnd bytes command s) := by
  unfold frameEnd
  split
  · exact answerFrame_arbiter h hc
  · exact h

theorem steeringFrameEnd_arbiter {bytes : List Byte} {command : State → Answer}
    (hc : ∀ u, ArbiterLaw u → ArbiterLaw (command u).state) : ArbiterLaw (steeringFrameEnd bytes command s) := by
  have hanswered : ArbiterLaw (answerFrame bytes command s) := answerFrame_arbiter h hc
  unfold steeringFrameEnd
  split
  · split
    · exact testWaiting_arbiter hanswered
    · exact hanswered
  · exact h

theorem exec_arbiter {i : Instr} {t : State} (e : exec i s = .next t) : ArbiterLaw t := by
  have whenHigh : ∀ u : State, ArbiterLaw u → ArbiterLaw (if s.resetn then u else s) := fun u hu => by
    split
    · exact hu
    · exact h
  have frame : ∀ {bytes : List Byte} {command : State → Answer}, (∀ u, SameScheduler u (command u).state) →
      ArbiterLaw (frameEnd bytes command s) := fun hc => frameEnd_arbiter h fun u hu => hu.same (hc u)
  have steering : ∀ {bytes : List Byte} {command : State → Answer}, (∀ u, SameScheduler u (command u).state) →
      ArbiterLaw (steeringFrameEnd bytes command s) := fun hc => steeringFrameEnd_arbiter h fun u hu => hu.same (hc u)
  cases i <;> cases e
  case boundaryEvent n => exact whenHigh _ (boundary_arbiter h n)
  case takeEvent n x => exact whenHigh _ (take_arbiter h n x)
  case acceptance p r urg =>
    split
    · exact testWaiting_arbiter (acceptHead_arbiter p _ (h.same (SameScheduler.of_ports rfl rfl)))
    · exact h.same (SameScheduler.of_ports rfl rfl)
  case indication urg => exact whenHigh _ (testWaiting_arbiter (indication_arbiter h urg))
  case downstreamCompletion c => exact whenHigh _ (complete_arbiter h c)
  case delivery p => exact whenHigh _ (deliver_arbiter h p)
  case nop f => exact frame SameScheduler.refl
  case setStream a f => exact steering fun u => cmdSetStream_sameScheduler u a
  case clearStream b f => exact steering fun u => cmdClearStream_sameScheduler u b
  case setConsumer a f => exact steering fun u => cmdSetConsumer_sameScheduler u a
  case assignPage a f => exact steering fun u => cmdAssignPage_sameScheduler u a
  case unassignPage b f => exact steering fun u => cmdUnassignPage_sameScheduler u b
  case startStream b f => exact steering fun u => cmdStartStream_sameScheduler u b
  case stopStream b f => exact steering fun u => cmdStopStream_sameScheduler u b
  case freeze b t o f => exact frame fun u => cmdFreeze_sameScheduler u b t o
  case setArbiter w0 w1 w2 w3 f => exact frameEnd_arbiter h fun _ hu => cmdSetArbiter_arbiter w0 w1 w2 w3 hu
  case setEvents w m f => exact frame fun u => cmdSetEvents_sameScheduler u w m
  case popEvents k f => exact frame fun u => cmdPopEvents_sameScheduler u k
  case readStream b f => exact frame fun u => cmdReadStream_sameScheduler u b
  case readPage b f => exact frame fun u => cmdReadPage_sameScheduler u b
  case readCounters g n x c f => exact frame fun u => cmdReadCounters_sameScheduler u g n x c
  case datapathReset b f => exact steeringFrameEnd_arbiter h fun _ hu => cmdDatapathReset_arbiter b hu
  case unknownCommand c f => exact frame SameScheduler.refl
  case discardedFrame bits => split <;> exact h.same (SameScheduler.of_ports rfl rfl)
  case pinReset => exact reset_arbiter.same (SameScheduler.of_ports rfl rfl)
  case resetnRise low =>
    split
    · exact h
    · exact testWaiting_arbiter (h.same (SameScheduler.of_ports rfl rfl))
  case shortFrame c f => exact frame SameScheduler.refl
  case chipSelectRiseAfterPinReset => split <;> exact h.same (SameScheduler.of_ports rfl rfl)

end Events

/-- Settles O53: SET-ARBITER and the two resets write what the law asks for, only an acceptance adds pieces, and behind it
and behind an indication grants are made until no indication is unused or no piece is queued. -/
theorem arbiterLawKept : Obligations.ArbiterLawKept := by
  intro s t h hstep
  rcases step_cases hstep with rfl | ⟨i, rest, hexec⟩
  · exact h
  · exact exec_arbiter (s := { s with pending := rest }) (h.same (SameScheduler.of_ports rfl rfl)) hexec

end Sys2Proof.Machine

/-! PROOFS. The event queue: SET-EVENTS (O20), POP-EVENTS (O21) and READ-COUNTERS (O23). -/

namespace Sys2Proof.Machine

/-! ## SET-EVENTS (R158) -/

/-- The part with this watermark and these mask flags, ATTN re-evaluated. -/
def watched (w : Byte) (m : Word16) (s : State) : State :=
  { s with watermark := w.toNat, kindMask := m.setWidth 9, attn := attnLevel s.events.length w.toNat }

/-- SET-EVENTS is taken when the watermark is 1 to 32, and else refused. -/
theorem cmdSetEvents_cases (w : Byte) (m : Word16) (s : State) :
    ((1 ≤ w.toNat ∧ w.toNat ≤ 32) ∧ cmdSetEvents w m s = Answer.done (watched w m s))
      ∨ ((w.toNat = 0 ∨ 32 < w.toNat) ∧ cmdSetEvents w m s = Answer.refuse .badArg s) := by
  by_cases hrange : 1 ≤ w.toNat ∧ w.toNat ≤ 32
  · exact Or.inl ⟨hrange, if_pos (by simpa using hrange)⟩
  · exact Or.inr ⟨by omega, if_neg (by simpa using hrange)⟩

/-- Nine mask bits are kept, one for each kind that can be masked (R158, R159). -/
theorem watched_kindEnabled (w : Byte) (m : Word16) (s : State) (k : EventKind) :
    (watched w m s).kindEnabled k = if k = .eventsLost then true else m.getLsbD (k.code - 1) := by
  cases k <;> simp [State.kindEnabled, watched, EventKind.code]

/-- Settles O20: a watermark out of range refuses the command, and otherwise watermark, mask and ATTN are written. -/
theorem setEventsConfigures : Obligations.SetEventsConfigures := by
  intro w m f s hready
  have hexec : exec (.setEvents w m f) s =
      .next (answerFrame ([0x41, w] ++ word16Bytes m ++ f.extra) (cmdSetEvents w m) s) :=
    congrArg Host.Outcome.next (frameEnd_ready hready)
  rcases cmdSetEvents_cases w m (shiftFrame ([0x41, w] ++ word16Bytes m ++ f.extra) s) with
    ⟨hrange, hdone⟩ | ⟨hrange, hrefuse⟩
  · refine ⟨fun hbad => by omega, fun _ _ => ?_⟩
    obtain ⟨hstate, hframed⟩ := answered_of (i := .setEvents w m f) (data := []) rfl hdone
      ⟨rfl, rfl, rfl, rfl, rfl, rfl⟩
    rw [hstate] at hexec
    exact ⟨_, hexec, hframed, rfl, watched_kindEnabled w m s, rfl, rfl, rfl, ⟨rfl, rfl⟩, ⟨rfl, rfl, rfl, rfl, rfl, rfl⟩⟩
  · exact ⟨fun _ => refused_of rfl hexec hrefuse, fun h1 h32 => by omega⟩

/-! ## The bytes of numbers and records (R185, R188) -/

/-- Bits 8j to 8j + 7 of a word are its byte of weight 256^j. -/
theorem extractByte_eq {n : Nat} (w : BitVec n) (j : Nat) :
    w.extractLsb' (8 * j) 8 = BitVec.ofNat 8 (w.toNat / 256 ^ j) := by
  rw [BitVec.extractLsb', Nat.shiftRight_eq_div_pow, pow_mul]
  rfl

theorem word32Bytes_eq (w : Word32) : word32Bytes w = bigEndian 4 w.toNat := by
  have hbyte := extractByte_eq w
  rw [word32Bytes, hbyte 3, hbyte 2, hbyte 1, hbyte 0]
  rfl

theorem addrBytes_eq (a : Addr) : addrBytes a = bigEndian 5 a.toNat := by
  have hbyte := extractByte_eq a
  rw [addrBytes, hbyte 4, hbyte 3, hbyte 2, hbyte 1, hbyte 0]
  rfl

theorem optByte_eq {n : Nat} (o : Option (Fin n)) : optByte o = o.elim 0xFF fun i => BitVec.ofNat 8 i.val := by
  cases o <;> rfl

theorem kindCode_numByte (k : EventKind) : KindCode k (numByte k.code) := by cases k <;> rfl

theorem reasonCode_byte (why : Reason) : ReasonCode why why.byte.toNat := by cases why <;> rfl

/-- The 20 bytes of a record stand as R188 lays them out. -/
theorem recordBytes_layout (r : EventRecord) : RecordLayout r (recordBytes r) := by
  have htag : ∀ o : Option (BitVec 6), (match o with | some t => t.setWidth 8 | none => 0xFF : Byte)
      = o.elim 0xFF fun t => BitVec.ofNat 8 t.toNat := fun o => by
    cases o with
    | none => rfl
    | some t => exact (BitVec.ofNat_toNat 8 t).symm
  refine ⟨rfl, ⟨_, rfl, kindCode_numByte r.kind⟩, congrArg some (optByte_eq r.stream), fun h => ?_, fun h => ?_,
    fun h => ?_, congrArg some (optByte_eq r.page), congrArg some (optByte_eq r.port), congrArg some (htag r.tag), fun h => ?_,
    fun why h => ⟨why.byte, ?_, reasonCode_byte why⟩, word32Bytes_eq _, addrBytes_eq _, word32Bytes_eq _⟩ <;>
    · rw [recordBytes, h]
      rfl

/-! ## POP-EVENTS (R155, R156, R157) -/

/-- POP-EVENTS is taken when the count is 1 to 4, and else refused. -/
theorem cmdPopEvents_cases (b : Byte) (s : State) :
    ((1 ≤ b.toNat ∧ b.toNat ≤ 4)
        ∧ cmdPopEvents b s = Answer.report (popData (s.events.take b.toNat)) (removeRecords b.toNat s))
      ∨ ((b.toNat = 0 ∨ 4 < b.toNat) ∧ cmdPopEvents b s = Answer.refuse .badArg s) := by
  by_cases hrange : 1 ≤ b.toNat ∧ b.toNat ≤ 4
  · exact Or.inl ⟨hrange, if_pos (by simpa using hrange)⟩
  · exact Or.inr ⟨by omega, if_neg (by simpa using hrange)⟩

/-- A removal behind which records have been lost appends EVENTS_LOST and clears the lost count (R156). -/
theorem removeRecords_lost {k : Nat} {s : State} (hk : 1 ≤ k) (he : s.events ≠ []) (hl : 0 < s.lost) :
    (removeRecords k s).events = s.events.drop k ++ [{ kind := .eventsLost, count := some (BitVec.ofNat 32 s.lost) }]
      ∧ (removeRecords k s).lost = 0 := by
  have hremoved : 0 < min k s.events.length := Nat.lt_min.2 ⟨hk, List.length_pos_iff.2 he⟩
  have hrecord : lostRecords (min k s.events.length) s.lost =
      [{ kind := .eventsLost, count := some (BitVec.ofNat 32 s.lost) }] :=
    if_pos (by rw [decide_eq_true hremoved, decide_eq_true hl]; rfl)
  unfold removeRecords
  rw [hrecord]
  exact ⟨rfl, rfl⟩

/-- With nothing removed or nothing lost, the removal is all there is (R155, R156). -/
theorem removeRecords_kept (k : Nat) {s : State} (h : s.events = [] ∨ s.lost = 0) :
    (removeRecords k s).events = s.events.drop k ∧ (removeRecords k s).lost = s.lost := by
  have hnone : lostRecords (min k s.events.length) s.lost = [] := if_neg (by rcases h with h | h <;> simp [h])
  unfold removeRecords
  rw [hnone]
  exact ⟨List.append_nil _, rfl⟩

/-- Settles O21: a count out of range refuses the command, and otherwise the records taken off the front go out and whether
EVENTS_LOST follows depends on what was removed and lost. -/
theorem popEventsRemovesTheOldest : Obligations.PopEventsRemovesTheOldest := by
  intro b f s hready
  have hexec : exec (.popEvents b f) s = .next (answerFrame ([0x50, b] ++ f.extra) (cmdPopEvents b) s) :=
    congrArg Host.Outcome.next (frameEnd_ready hready)
  rcases cmdPopEvents_cases b (shiftFrame ([0x50, b] ++ f.extra) s) with ⟨hrange, hreport⟩ | ⟨hrange, hrefuse⟩
  · refine ⟨fun hbad => by omega, fun h1 _ => ?_⟩
    obtain ⟨hstate, hframed⟩ := answered_of (i := .popEvents b f) rfl hreport ⟨rfl, rfl, rfl, rfl, rfl, rfl⟩
    have hdata : popData (s.events.take b.toNat) =
        BitVec.ofNat 8 (min b.toNat s.events.length) :: ((s.events.take b.toNat).map recordBytes).flatten := by
      rw [popData, List.length_take, List.flatMap_def]
      rfl
    have hlayout : List.Forall₂ RecordLayout (s.events.take b.toNat) ((s.events.take b.toNat).map recordBytes) :=
      List.forall₂_map_right_iff.2 (List.forall₂_same.2 fun r _ => recordBytes_layout r)
    rw [hstate] at hexec
    exact ⟨_, _, hexec, hdata ▸ hframed, hlayout, fun he hl => removeRecords_lost (s := shiftFrame _ s) h1 he hl,
      fun h => removeRecords_kept (s := shiftFrame _ s) _ h, rfl, ⟨rfl, rfl⟩, ⟨rfl, rfl⟩, ⟨rfl, rfl, rfl, rfl, rfl, rfl⟩⟩
  · exact ⟨fun _ => refused_of rfl hexec hrefuse, fun h1 h4 => by omega⟩

/-! ## READ-COUNTERS (R161, R162, R178) -/

theorem portOf_eq_some {b : Byte} {p : PortId} : portOf b = some p ↔ b.toNat = p.val := by
  unfold portOf
  split
  · rw [Option.some.injEq, Fin.ext_iff]
  · simp only [reduceCtorEq, false_iff]
    omega

/-- The bytes that name a group are in range, as far as they are looked at (R178). -/
theorem groupOf_range {kind number slot : Byte} {g : CounterGroup} (h : groupOf kind number slot = some g) :
    kind.toNat ≤ 3 ∧ (kind.toNat ≤ 1 → number.toNat ≤ 7) ∧ (kind.toNat = 1 → slot.toNat ≤ 1)
      ∧ (kind.toNat = 2 → number.toNat ≤ 3) := by
  unfold groupOf at h
  split at h
  · obtain ⟨n, hn, _⟩ := Option.map_eq_some_iff.1 h
    have hnumber := streamOf_eq_some.1 hn
    bv_omega
  · obtain ⟨n, hn, hslot⟩ := Option.bind_eq_some_iff.1 h
    obtain ⟨x, hx, _⟩ := Option.map_eq_some_iff.1 hslot
    have hnumber := streamOf_eq_some.1 hn
    have hle := slotOf_le hx
    bv_omega
  · obtain ⟨p, hp, _⟩ := Option.map_eq_some_iff.1 h
    have hnumber := portOf_eq_some.1 hp
    bv_omega
  · bv_omega
  · cases h

theorem exec_readCounters (kind number slot clear : Byte) (f : FrameTail) {s : State} (h : PortReady s) :
    exec (.readCounters kind number slot clear f) s =
      .next (answerFrame ([0x53, kind, number, slot, clear] ++ f.extra) (cmdReadCounters kind number slot clear) s) :=
  congrArg Host.Outcome.next (frameEnd_ready h)

theorem cmdReadCounters_badArg {kind number slot clear : Byte}
    (h : 1 < clear.toNat ∨ 3 < kind.toNat ∨ (kind.toNat ≤ 1 ∧ 7 < number.toNat) ∨ (kind.toNat = 1 ∧ 1 < slot.toNat)
      ∨ (kind.toNat = 2 ∧ 3 < number.toNat)) (s : State) :
    cmdReadCounters kind number slot clear s = Answer.refuse .badArg s := by
  unfold cmdReadCounters
  split
  · next g c hg hc =>
    obtain ⟨hkind, hstream, hslot, hport⟩ := groupOf_range hg
    have hclear := flagByte_le c
    rw [← flagOf_eq_some hc] at hclear
    omega
  · rfl

/-- What reading a group leaves: its counters 0 with the clear flag on, and everything as it was with it off (R162). -/
def groupRead (g : CounterGroup) (c : Bool) (s : State) : State := if c then clearGroup g s else s

/-- A selector in range: the snapshot of the group goes out, and with the clear flag on its counters are 0 behind it. -/
theorem cmdReadCounters_group {kind number slot : Byte} {g : CounterGroup} (hg : groupOf kind number slot = some g)
    (c : Bool) (s : State) :
    cmdReadCounters kind number slot (flagByte c) s =
      Answer.report (countersData kind number s g) (groupRead g c s) := by
  unfold cmdReadCounters groupRead
  rw [hg, flagOf_flagByte]

theorem countersData_eq (kind number : Byte) (s : State) (g : CounterGroup) :
    countersData kind number s g = [kind, number] ++ (groupCounters s g).flatMap fun c => bigEndian 4 c.toNat := by
  rw [countersData, funext word32Bytes_eq]

/-- READ-COUNTERS of a group: its snapshot goes out, and of tables, scheduler and event queue only what the clear writes
changes. -/
theorem exec_readCounters_group {kind number slot : Byte} {g : CounterGroup} (hg : groupOf kind number slot = some g) (c : Bool)
    (f : FrameTail) {s : State} (hready : PortReady s) :
    ∃ t, exec (.readCounters kind number slot (flagByte c) f) s = .next t
      ∧ Framed (.readCounters kind number slot (flagByte c) f)
          ([0x00, kind, number] ++ (groupCounters s g).flatMap fun c => bigEndian 4 c.toNat) s t
      ∧ SameRotation (groupRead g c s) t ∧ SameTraffic (groupRead g c s) t ∧ SameEvents s t := by
  have hexec := exec_readCounters kind number slot (flagByte c) f hready
  have hframe : ∀ u, CommandFrame u (groupRead g c u) := fun u => by
    cases c <;> cases g <;> exact ⟨rfl, rfl, rfl, rfl, rfl, rfl⟩
  obtain ⟨hstate, hframed⟩ := answered_of (i := .readCounters kind number slot (flagByte c) f) rfl
    (cmdReadCounters_group hg c (shiftFrame _ s)) (hframe _)
  have hcounters : ∀ bytes, groupCounters (shiftFrame bytes s) g = groupCounters s g := fun _ => by cases g <;> rfl
  rw [hstate] at hexec
  refine ⟨_, hexec, ?_, ?_⟩
  · rw [countersData_eq, hcounters] at hframed ⊢
    exact hframed
  · cases c <;> cases g <;> exact ⟨⟨rfl, rfl⟩, ⟨rfl, rfl, rfl, rfl, rfl, rfl⟩, ⟨rfl, rfl, rfl, rfl, rfl⟩⟩

theorem groupRead_stream (n : StreamId) (c : Bool) (s : State) :
    (groupRead (.stream n) c s).stream n =
        (if c then
          { s.stream n with closed := 0, heldFrames := 0, sunk := 0, published := 0, damaged := 0, dropped := 0 }
          else s.stream n)
      ∧ OtherStreams n s (groupRead (.stream n) c s) := by
  cases c with
  | false => exact ⟨rfl, fun _ _ => rfl⟩
  | true =>
    refine ⟨?_, fun m hm => ?_⟩ <;> rw [groupRead, if_pos rfl, clearGroup]
    · exact modStream_stream_same s n _
    · exact modStream_stream_other s hm _

theorem groupRead_slot (n : StreamId) (x : SlotId) (c : Bool) (s : State) :
    (groupRead (.slot n x) c s).stream n =
        (if c then (s.stream n).modSlot x (fun sl => { sl with takes := 0, repeats := 0, frozenTakes := 0 })
          else s.stream n)
      ∧ OtherStreams n s (groupRead (.slot n x) c s) := by
  cases c with
  | false => exact ⟨rfl, fun _ _ => rfl⟩
  | true =>
    refine ⟨?_, fun m hm => ?_⟩ <;> rw [groupRead, if_pos rfl, clearGroup]
    · exact modSlot_stream_same s n x _
    · exact modSlot_stream_other s hm x _

theorem groupRead_port (p : PortId) (c : Bool) (s : State) :
    (groupRead (.port p) c s).port p = (if c then { s.port p with accepted := 0, refused := 0, faults := 0 } else s.port p)
      ∧ OtherPorts p s (groupRead (.port p) c s) := by
  cases c with
  | false => exact ⟨rfl, fun _ _ => rfl⟩
  | true =>
    refine ⟨?_, fun q hq => ?_⟩ <;> rw [groupRead, if_pos rfl, clearGroup]
    · exact modPort_port_same s p _
    · exact modPort_port_other s hq _

theorem SameRotation.stream {s t : State} (h : SameRotation s t) (n : StreamId) : t.stream n = s.stream n :=
  congrArg (fun v => Vector.get v n) h.1

theorem SameTraffic.port {s t : State} (h : SameTraffic s t) (p : PortId) : t.port p = s.port p :=
  congrArg (fun v => Vector.get v p) h.2.1

/-- Settles O23: a selector or flag out of range refuses the command, and otherwise each group is read and cleared where its
counters stand. -/
theorem readCountersSnapshotAndClear : Obligations.ReadCountersSnapshotAndClear := by
  refine ⟨fun group number slot clear f s hready hbad => ?_, fun number slot c f s hready =>
    ⟨fun n hn => ?_, fun n x hn hx => ?_, fun p hp => ?_, ?_⟩⟩
  · exact refused_of (code := .badArg) rfl (exec_readCounters group number slot clear f hready)
      (cmdReadCounters_badArg hbad _)
  · have hg : groupOf 0x00 number slot = some (.stream n) :=
      congrArg (Option.map CounterGroup.stream) (streamOf_eq_some.2 hn)
    obtain ⟨t, hexec, hframed, hrotation, htraffic, hevents⟩ := exec_readCounters_group hg c f hready
    obtain ⟨hcleared, hothers⟩ := groupRead_stream n c s
    refine ⟨t, hexec, hframed, (hrotation.stream n).trans hcleared, fun m hm => (hrotation.stream m).trans (hothers m hm),
      ?_, ?_, hevents⟩
    · exact hrotation.2.trans (by cases c <;> rfl)
    · cases c <;> exact htraffic
  · have hg : groupOf 0x01 number slot = some (.slot n x) := by
      show ((streamOf number).bind fun n => (slotOf slot).map (CounterGroup.slot n)) = _
      rw [streamOf_eq_some.2 hn, hx, slotOf_slotByte]
      rfl
    obtain ⟨t, hexec, hframed, hrotation, htraffic, hevents⟩ := exec_readCounters_group hg c f hready
    obtain ⟨hcleared, hothers⟩ := groupRead_slot n x c s
    refine ⟨t, hexec, hframed, (hrotation.stream n).trans hcleared, fun m hm => (hrotation.stream m).trans (hothers m hm),
      ?_, ?_, hevents⟩
    · exact hrotation.2.trans (by cases c <;> rfl)
    · cases c <;> exact htraffic
  · have hg : groupOf 0x02 number slot = some (.port p) :=
      congrArg (Option.map CounterGroup.port) (portOf_eq_some.2 hp)
    obtain ⟨t, hexec, hframed, hrotation, htraffic, hevents⟩ := exec_readCounters_group hg c f hready
    obtain ⟨hcleared, hothers⟩ := groupRead_port p c s
    have hport := htraffic.port
    obtain ⟨hentries, _, hpointer, hind, hdatapath, hstray⟩ := htraffic
    refine ⟨t, hexec, hframed, (hport p).trans hcleared, fun q hq => (hport q).trans (hothers q hq), ?_⟩
    cases c <;> exact ⟨hentries, hpointer, hind, hdatapath, hstray, hrotation, hevents⟩
  · obtain ⟨t, hexec, hframed, hrotation, htraffic, hevents⟩ :=
      exec_readCounters_group (kind := 0x03) (number := number) (slot := slot) (g := .device) rfl c f hready
    obtain ⟨hentries, hports, hpointer, hind, hdatapath, hstray⟩ := htraffic
    refine ⟨t, hexec, hframed, ?_⟩
    cases c <;> exact ⟨hstray, hentries, hports, hpointer, hind, hdatapath, hrotation, hevents⟩

end Sys2Proof.Machine

/-! PROOFS. Every step keeps the law of the event queue (O52): whatever is not SET-EVENTS, POP-EVENTS or a pin reset writes
the queue by raising records and in no other way. -/

namespace Sys2Proof.Machine

/-! ## Records are raised and nothing else is written (R152) -/

/-- Between s and t records have been raised, one behind the other, and the event queue has been written in no other way. -/
inductive OnlyRaises (s : State) : State → Prop
  /-- Nothing has been raised. -/
  | none {t : State} (h : SameEvents s t) : OnlyRaises s t
  /-- One more record has been raised. -/
  | more {t u : State} (r : EventRecord) (h : OnlyRaises s t) (k : SameEvents (t.raise r) u) : OnlyRaises s u

namespace OnlyRaises

variable {s t u : State}

theorem refl (s : State) : OnlyRaises s s := .none (SameEvents.refl s)

theorem same (h : OnlyRaises s t) (k : SameEvents t u) : OnlyRaises s u := by
  cases h with
  | none h => exact .none (h.trans k)
  | more r h hr => exact .more r h (hr.trans k)

theorem trans (h : OnlyRaises s t) (k : OnlyRaises t u) : OnlyRaises s u := by
  induction k with
  | none k => exact h.same k
  | more r _ k ih => exact .more r ih k

theorem behind (k : OnlyRaises t u) (h : SameEvents s t) : OnlyRaises s u := trans (.none h) k

theorem raise (h : OnlyRaises s u) {r : EventRecord} : OnlyRaises s (u.raise r) := .more r h (SameEvents.refl _)

theorem modStream (h : OnlyRaises s u) {n : StreamId} {f : Stream → Stream} : OnlyRaises s (u.modStream n f) :=
  h.same (SameEvents.refl u)

theorem modPage (h : OnlyRaises s u) {p : PageId} {f : Page → Page} : OnlyRaises s (u.modPage p f) :=
  h.same (SameEvents.refl u)

theorem modSlot (h : OnlyRaises s u) {n : StreamId} {x : SlotId} {f : Slot → Slot} : OnlyRaises s (u.modSlot n x f) :=
  h.same (SameEvents.refl u)

theorem modEntry (h : OnlyRaises s u) {e : EntryId} {f : Entry → Entry} : OnlyRaises s (u.modEntry e f) :=
  h.same (SameEvents.refl u)

theorem modPort (h : OnlyRaises s u) {p : PortId} {f : Port → Port} : OnlyRaises s (u.modPort p f) :=
  h.same (SameEvents.refl u)

end OnlyRaises

theorem EventQueueLaw.same {s t : State} (h : EventQueueLaw s) (k : SameEvents s t) : EventQueueLaw t := by
  obtain ⟨hevents, hlost, hattn, hwatermark, _⟩ := k
  unfold EventQueueLaw
  rw [hevents, hlost, hattn, hwatermark]
  exact h

/-- A masked record changes nothing, one that fits moves ATTN with the queue, and behind a full queue one is lost (R152,
R154, R157). -/
theorem EventQueueLaw.raise {s : State} (h : EventQueueLaw s) (r : EventRecord) : EventQueueLaw (s.raise r) := by
  obtain ⟨hlength, hlost, hfull, hlow, hhigh, hattn⟩ := h
  rcases raise_cases s r with ⟨_, hraise⟩ | ⟨_, hroom, hraise⟩ | ⟨_, hroom, hraise⟩ <;> rw [hraise]
  · exact ⟨hlength, hlost, hfull, hlow, hhigh, hattn⟩
  · have happended : (s.events ++ [r]).length = s.events.length + 1 := List.length_append
    refine ⟨happended.trans_le hroom, hlost, fun hpos => ?_, hlow, hhigh, ?_⟩
    · exact absurd (hfull hpos) hroom.ne
    · rw [happended]
      rfl
  · exact ⟨hlength, Nat.min_le_right _ _, fun _ => le_antisymm hlength hroom, hlow, hhigh, hattn⟩

theorem EventQueueLaw.raised {s t : State} (h : EventQueueLaw s) (k : OnlyRaises s t) : EventQueueLaw t := by
  induction k with
  | none k => exact h.same k
  | more r _ k ih => exact (ih.raise r).same k

/-! ## The rotation controller -/

theorem retireTest_sameEvents (n : StreamId) (s : State) (p : PageId) : SameEvents s (retireTest n s p) := by
  unfold retireTest
  split
  · exact release_sameEvents p s
  · exact SameEvents.refl s

theorem retireFold_sameEvents (n : StreamId) (l : List PageId) (s : State) : SameEvents s (l.foldl (retireTest n) s) := by
  induction l generalizing s with
  | nil => exact SameEvents.refl s
  | cons p rest ih => exact (retireTest_sameEvents n s p).trans (ih _)

theorem retireAll_sameEvents (n : StreamId) (s : State) : SameEvents s (retireAll n s) := retireFold_sameEvents n _ s

theorem publish_sameEvents (n : StreamId) (p : PageId) (s : State) : SameEvents s (publish n p s) :=
  retireAll_sameEvents n ((s.modPage p fun pg => { pg with stage := .published }).modStream n fun st =>
    { st with ready := st.ready ++ [p], published := st.published + 1 })

theorem discard_onlyRaises (n : StreamId) (p : PageId) (s : State) : OnlyRaises s (discard n p s) :=
  (OnlyRaises.refl s).modStream.raise.same (release_sameEvents p _)

theorem chain_onlyRaises (fuel : Nat) (n : StreamId) (s : State) : OnlyRaises s (chain fuel n s) := by
  induction fuel generalizing s with
  | zero => exact OnlyRaises.refl s
  | succ fuel ih =>
    unfold chain
    cases oldestPending s n with
    | none => exact OnlyRaises.refl s
    | some p =>
      dsimp only
      split
      · refine OnlyRaises.trans ?_ (ih _)
        split
        · exact discard_onlyRaises n p s
        · exact .none (publish_sameEvents n p s)
      · exact OnlyRaises.refl s

theorem sealPage_onlyRaises (n : StreamId) (p : PageId) (s : State) : OnlyRaises s (sealPage n p s) :=
  (OnlyRaises.refl s).modPage.trans (chain_onlyRaises _ n _)

theorem endStop_onlyRaises (n : StreamId) (s : State) : OnlyRaises s (endStop n s) := by
  unfold endStop
  split
  · exact (OnlyRaises.refl s).modStream.raise
  · exact OnlyRaises.refl s

theorem examinePage_onlyRaises (k : Access) (p : PageId) (s : State) : OnlyRaises s (examinePage k p s) := by
  unfold examinePage
  dsimp only
  cases (s.page p).stage <;> dsimp only
  case closing =>
    split
    · cases (s.page p).owner with
      | none => exact OnlyRaises.refl s
      | some n => exact sealPage_onlyRaises n p s
    · exact OnlyRaises.refl s
  case retiring =>
    have hfreed : OnlyRaises s (s.modPage p fun q => { q with stage := .free }) :=
      (OnlyRaises.refl s).modPage
    split
    · cases (s.page p).owner with
      | none => exact hfreed
      | some n => exact hfreed.trans (endStop_onlyRaises n _)
    · exact OnlyRaises.refl s
  all_goals exact OnlyRaises.refl s

theorem lowerCount_onlyRaises (k : Access) (p : PageId) (s : State) : OnlyRaises s (lowerCount k p s) :=
  (OnlyRaises.refl s).modPage.trans (examinePage_onlyRaises k p _)

/-- A recycled page's frame is reported as dropped (R48). -/
theorem seekFill_onlyRaises {n : StreamId} {s t : State} {p : PageId} (h : seekFill n s = some (p, t)) :
    OnlyRaises s t := by
  rcases seekFill_cases n s with ⟨q, _, e⟩ | ⟨q, _, _, _, e⟩ | ⟨_, e, _⟩ <;> rw [e] at h <;> cases h
  · exact (OnlyRaises.refl s).modPage.modStream
  · exact (OnlyRaises.refl s).modStream.raise.modPage.modStream

theorem closeFill_onlyRaises (n : StreamId) (f : Word32) (s : State) : OnlyRaises s (closeFill n f s) := by
  unfold closeFill
  cases (s.stream n).fillPage with
  | none => exact OnlyRaises.refl s
  | some p =>
    dsimp only
    have hclosing : OnlyRaises s ((s.modPage p fun pg => { pg with stage := .closing, frame := some f }).modStream n
        fun st => { st with fillPage := none }) := (OnlyRaises.refl s).modPage.modStream
    split
    · split
      · exact hclosing.trans (sealPage_onlyRaises n p _)
      · exact hclosing
    · exact OnlyRaises.refl s

theorem starve_onlyRaises (n : StreamId) (s : State) : OnlyRaises s (starve n s) := (OnlyRaises.refl s).modStream.raise

theorem closeFrame_onlyRaises (n : StreamId) (f : Word32) (s : State) : OnlyRaises s (closeFrame n f s) := by
  refine (closeFill_onlyRaises n f s).trans ?_
  unfold closeFrame
  dsimp only
  cases h : seekFill n (closeFill n f s) with
  | none => exact starve_onlyRaises n _
  | some r => exact seekFill_onlyRaises h

theorem sinkFrame_onlyRaises (n : StreamId) (s : State) : OnlyRaises s (sinkFrame n s) := by
  have hcounted : OnlyRaises s (countSunk n s) := (OnlyRaises.refl s).modStream
  unfold sinkFrame
  dsimp only
  cases h : seekFill n (countSunk n s) with
  | none => exact hcounted
  | some r => exact (hcounted.trans (seekFill_onlyRaises h)).modStream.raise

theorem takenBoundary_onlyRaises (n : StreamId) (s : State) : OnlyRaises s (takenBoundary n s) := by
  have hbegun : OnlyRaises s (beginClosing n s) := (OnlyRaises.refl s).modStream
  unfold takenBoundary closingBoundary
  dsimp only
  split
  · exact (OnlyRaises.refl s).modStream
  · split
    · exact hbegun.trans (sinkFrame_onlyRaises n _)
    · split
      · exact hbegun.modStream
      · exact hbegun.trans (closeFrame_onlyRaises n _ _)

theorem retireAfterTake_sameEvents (n : StreamId) (old : Option PageId) (s : State) :
    SameEvents s (retireAfterTake n old s) := by
  have htested : SameEvents s (match old with | some o => retireTest n s o | none => s) := by
    cases old with
    | none => exact SameEvents.refl s
    | some o => exact retireTest_sameEvents n s o
  unfold retireAfterTake
  dsimp only
  split
  · exact htested
  · exact htested.trans (retireAll_sameEvents n _)

theorem successfulTake_sameEvents (n : StreamId) (x : SlotId) (c : PageId) (s : State) :
    SameEvents s (successfulTake n x c s) := by
  rw [successfulTake_eq]
  exact (slotMoved_sameEvents n x c s).trans (retireAfterTake_sameEvents n _ _)

theorem repeatTake_onlyRaises (n : StreamId) (x : SlotId) (s : State) : OnlyRaises s (repeatTake n x s) := by
  unfold repeatTake staleTest
  split
  · exact (OnlyRaises.refl s).modSlot.raise.modSlot
  · exact (OnlyRaises.refl s).modSlot

/-! ## Presentation, grants and acceptance -/

theorem present_sameEvents (p : PortId) (s : State) : SameEvents s (present p s) := by
  rcases present_cases p s with ⟨_, _, h⟩ | ⟨_, h⟩ <;> rw [h] <;> exact SameEvents.refl s

/-- A datapath that becomes NORMAL again reports it (R133, R134). -/
theorem quiet_onlyRaises (s : State) : OnlyRaises s ({ s with datapath := .normal }.raise { kind := .datapathQuiet }) := by
  have hnormal : SameEvents s { s with datapath := .normal } := SameEvents.refl s
  exact OnlyRaises.raise (.none hnormal)

theorem endQuiesce_onlyRaises (s : State) : OnlyRaises s (endQuiesce s) := by
  unfold endQuiesce
  split
  · exact quiet_onlyRaises s
  · exact OnlyRaises.refl s

theorem grantPort_sameEvents (p : PortId) (s : State) : SameEvents s (grantPort p s) := by
  have hsent : ∀ (r : PieceRef) (u : State), SameEvents u (sendPiece r u) := fun r u => by
    unfold sendPiece
    split <;> exact SameEvents.refl u
  unfold grantPort
  cases (s.port p).queue with
  | nil => exact SameEvents.refl s
  | cons r rest => exact SameEvents.trans (SameEvents.refl s) (hsent r _)

theorem grant_sameEvents (s : State) : SameEvents s (grant s) := by
  rcases grant_cases s with ⟨p, _, h⟩ | ⟨_, p, _, h⟩ | ⟨_, _, h⟩ <;> rw [h]
  · exact grantPort_sameEvents p s
  · exact grantPort_sameEvents p (reloadCredits s)
  · exact SameEvents.refl s

theorem grantLoop_sameEvents (fuel : Nat) (s : State) : SameEvents s (grantLoop fuel s) := by
  induction fuel generalizing s with
  | zero => exact SameEvents.refl s
  | succ fuel ih =>
    unfold grantLoop
    split
    · exact (grant_sameEvents s).trans (ih _)
    · exact SameEvents.refl s

theorem runGrants_sameEvents (s : State) : SameEvents s (runGrants s) := grantLoop_sameEvents _ s

/-- An acceptance raises the report of its decision, when there is one (R118). -/
theorem acceptInto_onlyRaises (e : EntryId) (p : PortId) (r : Request) (d : Decision) (s : State) :
    OnlyRaises s (acceptInto e p r d s) := by
  have hcounted : SameEvents s (raiseTarget r.kind d.target (takeEntry e p r d s)) := by
    cases d.target <;> exact SameEvents.refl s
  rw [acceptInto_eq]
  cases d.report with
  | none => exact .none hcounted
  | some rec => exact OnlyRaises.raise (.none hcounted)

theorem acceptHead_onlyRaises (p : PortId) (r : Request) (s : State) : OnlyRaises s (acceptHead p r s) := by
  have hwaits : ∀ w, SameEvents s (setWaiting p w s) := fun _ => SameEvents.refl s
  unfold acceptHead
  cases acceptEntry s p r with
  | none => exact .none (hwaits _)
  | some e =>
    have haccepted := (acceptInto_onlyRaises e p r (steer s p r) (setWaiting p none s)).behind (hwaits none)
    exact (haccepted.same (present_sameEvents p _)).same (runGrants_sameEvents _)

theorem Retested.onlyRaises {s t : State} (h : Retested s t) : OnlyRaises s t := by
  induction h with
  | done s => exact OnlyRaises.refl s
  | accept _ _ p r _ _ _ ih => exact (acceptHead_onlyRaises p r _).trans ih

theorem testWaiting_onlyRaises (s : State) : OnlyRaises s (testWaiting s) := (testWaiting_retested s).onlyRaises

/-! ## Completion and delivery -/

theorem lowerTarget_onlyRaises (en : Entry) (s : State) : OnlyRaises s (lowerTarget en s) := by
  unfold lowerTarget
  cases en.target with
  | none => exact OnlyRaises.refl s
  | some t => exact lowerCount_onlyRaises en.kind t.page s

theorem settleDone_onlyRaises (e : EntryId) (s : State) : OnlyRaises s (settleDone e s) := by
  have hfreed : OnlyRaises s (freeEntry e s) := (OnlyRaises.refl s).modPort.modEntry
  unfold settleDone
  split
  · exact OnlyRaises.refl s
  unfold settleEntry
  dsimp only
  cases (s.entry e).state with
  | free => exact OnlyRaises.refl s
  | queued => exact OnlyRaises.refl s
  | issued => exact (OnlyRaises.refl s).modEntry.trans (lowerTarget_onlyRaises _ _)
  | doneWaiting => exact lowerTarget_onlyRaises _ s
  | orphaned => exact hfreed.trans (lowerTarget_onlyRaises _ _)

/-- A failing piece is reported in one record (R126). -/
theorem pieceReported_onlyRaises (en : Entry) (pc : Piece) (c : Completion) (s : State) :
    OnlyRaises s (pieceReported en pc c s) := by
  unfold pieceReported
  split
  · exact OnlyRaises.refl s
  · unfold failPiece reportDamage
    split
    · exact (OnlyRaises.refl s).modPort.raise.modPage
    · exact (OnlyRaises.refl s).modPort.raise

theorem completePiece_onlyRaises (r : PieceRef) (pc : Piece) (c : Completion) (s : State) :
    OnlyRaises s (completePiece r pc c s) := by
  rw [completePiece_eq]
  have hcompleted := (pieceReported_onlyRaises (s.entry r.entry) pc c s).modEntry
    (e := r.entry) (f := fun en => en.modPiece r.second fun pc => pc.complete en c)
  exact ((hcompleted.trans (settleDone_onlyRaises _ _)).trans (endQuiesce_onlyRaises _)).same (present_sameEvents _ _)

theorem complete_onlyRaises (c : Completion) (s : State) : OnlyRaises s (complete c s) := by
  unfold complete
  cases outstandingPiece s c with
  | none => exact .none (SameEvents.refl s)
  | some x => exact (completePiece_onlyRaises x.1 x.2 c s).trans (testWaiting_onlyRaises _)

theorem deliver_onlyRaises (p : PortId) (s : State) : OnlyRaises s (deliver p s) := by
  have hsent : ∀ e, SameEvents s (sendResponse p e s) := fun e => by
    unfold sendResponse
    split <;> exact SameEvents.refl s
  have hretired : ∀ (e : EntryId) (u : State),
      SameEvents u ((retireEntry e u).modPort p fun po => { po with presented := none }) := fun e u => by
    unfold retireEntry
    split <;> exact SameEvents.refl u
  unfold deliver
  cases (s.port p).presented with
  | none => exact OnlyRaises.refl s
  | some e =>
    have hgone := OnlyRaises.none ((hsent e).trans (hretired e _))
    exact ((hgone.trans (endQuiesce_onlyRaises _)).same (present_sameEvents p _)).trans (testWaiting_onlyRaises _)

/-! ## Strobes -/

theorem boundary_onlyRaises (n : StreamId) (s : State) : OnlyRaises s (boundary n s) := by
  unfold boundary
  split
  · exact (takenBoundary_onlyRaises n s).trans (testWaiting_onlyRaises _)
  · exact OnlyRaises.refl s

theorem take_onlyRaises (n : StreamId) (x : SlotId) (s : State) : OnlyRaises s (take n x s) := by
  unfold take
  split
  · split
    · exact .none (SameEvents.refl s)
    · cases candidate s n x with
      | none => exact repeatTake_onlyRaises n x s
      | some c => exact (testWaiting_onlyRaises _).behind (successfulTake_sameEvents n x c s)
  · exact OnlyRaises.refl s

/-! ## Commands that only raise -/

section Commands

variable (s : State)

theorem cmdSetStream_onlyRaises (a : SetStreamArgs) : OnlyRaises s (cmdSetStream a s).state := by
  rcases cmdSetStream_state a s with e | ⟨_, _, _, _, e⟩ <;> rw [e] <;> exact .none (SameEvents.refl s)

theorem cmdClearStream_onlyRaises (b : Byte) : OnlyRaises s (cmdClearStream b s).state := by
  rcases cmdClearStream_state b s with e | ⟨_, _, e⟩ <;> rw [e] <;> exact .none (SameEvents.refl s)

theorem cmdSetConsumer_onlyRaises (a : SetConsumerArgs) : OnlyRaises s (cmdSetConsumer a s).state := by
  rcases cmdSetConsumer_state a s with e | ⟨_, _, _, e | ⟨_, e⟩⟩ <;> rw [e] <;> exact .none (SameEvents.refl s)

theorem cmdAssignPage_onlyRaises (a : AssignPageArgs) : OnlyRaises s (cmdAssignPage a s).state := by
  rcases cmdAssignPage_state a s with e | ⟨_, _, _, _, _, _, _, e⟩ <;> rw [e] <;> exact .none (SameEvents.refl s)

theorem cmdUnassignPage_onlyRaises (b : Byte) : OnlyRaises s (cmdUnassignPage b s).state := by
  rcases cmdUnassignPage_state b s with e | ⟨_, _, _, _, _, e⟩ <;> rw [e] <;> exact .none (SameEvents.refl s)

theorem cmdStartStream_onlyRaises (b : Byte) : OnlyRaises s (cmdStartStream b s).state := by
  rcases cmdStartStream_state b s with e | ⟨_, _, _, _, _, _, _, e⟩ <;> rw [e] <;> exact .none (SameEvents.refl s)

/-- A stop that ends at once reports its end (R93). -/
theorem cmdStopStream_onlyRaises (b : Byte) : OnlyRaises s (cmdStopStream b s).state := by
  unfold cmdStopStream
  split
  · exact OnlyRaises.refl s
  · next n _ =>
    have hstopped : OnlyRaises s (stopRunning n s) := by
      rw [stopRunning_eq]
      exact (endStop_onlyRaises n _).behind (SameEvents.refl s)
    cases (s.stream n).state with
    | running => exact hstopped
    | undefined => exact OnlyRaises.refl s
    | off => exact OnlyRaises.refl s
    | stopping => exact OnlyRaises.refl s

theorem cmdFreeze_onlyRaises (b t o : Byte) : OnlyRaises s (cmdFreeze b t o s).state := by
  unfold cmdFreeze
  split
  · next target _ _ _ _ =>
    split
    · exact OnlyRaises.refl s
    · cases target <;> exact .none (SameEvents.refl s)
  · exact OnlyRaises.refl s

theorem cmdSetArbiter_onlyRaises (w0 w1 w2 w3 : Byte) : OnlyRaises s (cmdSetArbiter w0 w1 w2 w3 s).state := by
  rcases cmdSetArbiter_cases w0 w1 w2 w3 s with ⟨_, e⟩ | ⟨_, e⟩ <;> rw [e] <;> exact .none (SameEvents.refl s)

theorem cmdReadStream_onlyRaises (b : Byte) : OnlyRaises s (cmdReadStream b s).state := by
  unfold cmdReadStream
  split <;> exact OnlyRaises.refl s

theorem cmdReadPage_onlyRaises (b : Byte) : OnlyRaises s (cmdReadPage b s).state := by
  unfold cmdReadPage
  split <;> exact OnlyRaises.refl s

theorem cmdReadCounters_onlyRaises (g n x c : Byte) : OnlyRaises s (cmdReadCounters g n x c s).state := by
  unfold cmdReadCounters
  split
  · next g c _ _ => cases c <;> cases g <;> exact .none (SameEvents.refl s)
  · exact OnlyRaises.refl s

/-- A datapath reset that leaves no entry reports the datapath quiet (R134). -/
theorem cmdDatapathReset_onlyRaises (b : Byte) : OnlyRaises s (cmdDatapathReset b s).state := by
  have hpresented : ∀ u : State, SameEvents u (presentAll u) := fun u =>
    (((present_sameEvents 0 u).trans (present_sameEvents 1 _)).trans (present_sameEvents 2 _)).trans
      (present_sameEvents 3 _)
  have hquiesced : ∀ u : State, OnlyRaises u (setQuiescing u) := fun u => by
    unfold setQuiescing
    split
    · exact .none (SameEvents.refl u)
    · exact quiet_onlyRaises u
  unfold cmdDatapathReset
  split
  · exact (hquiesced _).behind (hpresented (resetTables s))
  · exact OnlyRaises.refl s

end Commands

/-! ## Commands that write the event queue (R155, R156, R158) -/

/-- A new watermark in range is one that ATTN is compared with at once. -/
theorem cmdSetEvents_eventQueueLaw (w : Byte) (m : Word16) {s : State} (h : EventQueueLaw s) :
    EventQueueLaw (cmdSetEvents w m s).state := by
  rcases cmdSetEvents_cases w m s with ⟨⟨hlow, hhigh⟩, e⟩ | ⟨_, e⟩ <;> rw [e]
  · obtain ⟨hlength, hlost, hfull, _⟩ := h
    exact ⟨hlength, hlost, hfull, hlow, hhigh, rfl⟩
  · exact h

/-- Where a record has been lost the queue is full, so the removal opens room for EVENTS_LOST. -/
theorem removeRecords_eventQueueLaw {k : Nat} (hk : 1 ≤ k) {s : State} (h : EventQueueLaw s) :
    EventQueueLaw (removeRecords k s) := by
  obtain ⟨hlength, hlost, hfull, hlow, hhigh, _⟩ := h
  have hattn : (removeRecords k s).attn = decide (s.watermark ≤ (removeRecords k s).events.length) := rfl
  rcases Nat.eq_zero_or_pos s.lost with hzero | hpos
  · obtain ⟨hevents, hkept⟩ := removeRecords_kept k (Or.inr hzero)
    refine ⟨?_, hkept.trans_le hlost, fun hlt => ?_, hlow, hhigh, hattn⟩
    · rw [hevents, List.length_drop]
      omega
    · rw [hkept, hzero] at hlt
      cases hlt
  · have hne : s.events ≠ [] := List.ne_nil_of_length_eq_add_one (hfull hpos)
    obtain ⟨hevents, hcleared⟩ := removeRecords_lost hk hne hpos
    refine ⟨?_, hcleared.trans_le (Nat.zero_le _), fun hlt => ?_, hlow, hhigh, hattn⟩
    · rw [hevents, List.length_append, List.length_drop, List.length_singleton]
      omega
    · rw [hcleared] at hlt
      cases hlt

theorem cmdPopEvents_eventQueueLaw (b : Byte) {s : State} (h : EventQueueLaw s) :
    EventQueueLaw (cmdPopEvents b s).state := by
  rcases cmdPopEvents_cases b s with ⟨⟨hlow, _⟩, e⟩ | ⟨_, e⟩ <;> rw [e]
  · exact removeRecords_eventQueueLaw hlow h
  · exact h

/-! ## Every event -/

section Events

variable {s : State} (h : EventQueueLaw s)
include h

/-- A frame writes the response and the record of what went out, and its command does the rest. -/
theorem frameEnd_eventQueueLaw {bytes : List Byte} {command : State → Answer}
    (hc : ∀ u, EventQueueLaw u → EventQueueLaw (command u).state) : EventQueueLaw (frameEnd bytes command s) := by
  have hcommand := hc (shiftFrame bytes s) (h.same (SameEvents.refl s))
  unfold frameEnd
  split
  · exact hcommand.same (SameEvents.refl _)
  · exact h

theorem frameEnd_raises {bytes : List Byte} {command : State → Answer} (hc : ∀ u, OnlyRaises u (command u).state) :
    EventQueueLaw (frameEnd bytes command s) := frameEnd_eventQueueLaw h fun u hu => hu.raised (hc u)

theorem steeringFrameEnd_raises {bytes : List Byte} {command : State → Answer}
    (hc : ∀ u, OnlyRaises u (command u).state) : EventQueueLaw (steeringFrameEnd bytes command s) := by
  have hcommand := (h.same (t := shiftFrame bytes s) (SameEvents.refl s)).raised (hc _)
  have hanswered : EventQueueLaw (answerFrame bytes command s) := hcommand.same (SameEvents.refl _)
  unfold steeringFrameEnd
  split
  · split
    · exact hanswered.raised (testWaiting_onlyRaises _)
    · exact hanswered
  · exact h

theorem exec_eventQueueLaw {i : Instr} {t : State} (e : exec i s = .next t) : EventQueueLaw t := by
  have whenHigh : ∀ u : State, OnlyRaises s u → EventQueueLaw (if s.resetn then u else s) := fun u hu => by
    split
    · exact h.raised hu
    · exact h
  cases i <;> cases e
  case boundaryEvent n => exact whenHigh _ (boundary_onlyRaises n s)
  case takeEvent n x => exact whenHigh _ (take_onlyRaises n x s)
  case acceptance p r urg =>
    split
    · have haccepted := acceptHead_onlyRaises p (headRequest s p r) (seeUrg urg s)
      exact h.raised ((haccepted.trans (testWaiting_onlyRaises _)).behind (SameEvents.refl s))
    · exact h.same (SameEvents.refl s)
  case indication urg =>
    have hgranted : SameEvents s (runGrants (countIndication (seeUrg urg s))) := runGrants_sameEvents _
    exact whenHigh _ ((testWaiting_onlyRaises _).behind hgranted)
  case downstreamCompletion c => exact whenHigh _ (complete_onlyRaises c s)
  case delivery p => exact whenHigh _ (deliver_onlyRaises p s)
  case nop f => exact frameEnd_raises h OnlyRaises.refl
  case setStream a f => exact steeringFrameEnd_raises h fun u => cmdSetStream_onlyRaises u a
  case clearStream b f => exact steeringFrameEnd_raises h fun u => cmdClearStream_onlyRaises u b
  case setConsumer a f => exact steeringFrameEnd_raises h fun u => cmdSetConsumer_onlyRaises u a
  case assignPage a f => exact steeringFrameEnd_raises h fun u => cmdAssignPage_onlyRaises u a
  case unassignPage b f => exact steeringFrameEnd_raises h fun u => cmdUnassignPage_onlyRaises u b
  case startStream b f => exact steeringFrameEnd_raises h fun u => cmdStartStream_onlyRaises u b
  case stopStream b f => exact steeringFrameEnd_raises h fun u => cmdStopStream_onlyRaises u b
  case freeze b t o f => exact frameEnd_raises h fun u => cmdFreeze_onlyRaises u b t o
  case setArbiter w0 w1 w2 w3 f => exact frameEnd_raises h fun u => cmdSetArbiter_onlyRaises u w0 w1 w2 w3
  case setEvents w m f => exact frameEnd_eventQueueLaw h fun _ hu => cmdSetEvents_eventQueueLaw w m hu
  case popEvents k f => exact frameEnd_eventQueueLaw h fun _ hu => cmdPopEvents_eventQueueLaw k hu
  case readStream b f => exact frameEnd_raises h fun u => cmdReadStream_onlyRaises u b
  case readPage b f => exact frameEnd_raises h fun u => cmdReadPage_onlyRaises u b
  case readCounters g n x c f => exact frameEnd_raises h fun u => cmdReadCounters_onlyRaises u g n x c
  case datapathReset b f => exact steeringFrameEnd_raises h fun u => cmdDatapathReset_onlyRaises u b
  case unknownCommand c f => exact frameEnd_raises h OnlyRaises.refl
  case discardedFrame bits => split <;> exact h.same (SameEvents.refl s)
  case pinReset => exact reset_events.same ⟨rfl, rfl, rfl, rfl, rfl⟩
  case resetnRise low =>
    split
    · exact h
    · exact h.raised ((testWaiting_onlyRaises _).behind (SameEvents.refl s))
  case shortFrame c f => exact frameEnd_raises h OnlyRaises.refl
  case chipSelectRiseAfterPinReset => split <;> exact h.same (SameEvents.refl s)

end Events

/-- Settles O52: raising keeps the law, SET-EVENTS and POP-EVENTS compare ATTN with what they leave, and a pin reset leaves
the empty queue. -/
theorem eventQueueLawKept : Obligations.EventQueueLawKept := by
  intro s t h hstep
  rcases step_cases hstep with rfl | ⟨i, rest, hexec⟩
  · exact h
  · exact exec_eventQueueLaw (s := { s with pending := rest }) (h.same (SameEvents.refl s)) hexec

end Sys2Proof.Machine

/-! PROOFS. The management port: what every frame leaves (O3, O4), frames without a command (O9) and NOP (O10). -/

namespace Sys2Proof.Machine

/-! ## What a command can answer (R168, R172) -/

/-- The two ways of R168 and R172: a command is taken, and leaves the port, the links and RESETN alone; or it is refused,
and changes nothing. -/
inductive Answer.Proper (s : State) : Answer → Prop
  /-- The result OK, with result data. -/
  | taken (data : List Byte) (u : State) (h : CommandFrame s u) : Answer.Proper s (Answer.report data u)
  /-- Any other result. -/
  | refused (code : ResultCode) (h : code ≠ .ok) : Answer.Proper s (Answer.refuse code s)

theorem Answer.Proper.commandFrame {s : State} {a : Answer} (h : a.Proper s) : CommandFrame s a.state := by
  cases h with
  | taken data u h => exact h
  | refused code h => exact CommandFrame.refl s

/-- A taken command that writes streams and pages alone. -/
theorem Answer.Proper.rotated {s u : State} (h : RotationFrame s u) : (Answer.done u).Proper s := .taken [] u h.command

theorem presentAll_commandFrame (s : State) : CommandFrame s (presentAll s) := by
  have hone : ∀ (p : PortId) (u : State), CommandFrame u (present p u) := fun p u => by
    obtain ⟨x, h, _⟩ := present_eq p u
    rw [h]
    exact ⟨rfl, rfl, rfl, rfl, rfl, rfl⟩
  exact (((hone 0 s).trans (hone 1 _)).trans (hone 2 _)).trans (hone 3 _)

theorem setQuiescing_commandFrame (s : State) : CommandFrame s (setQuiescing s) := by
  have hwritten : ∀ d, CommandFrame s { s with datapath := d } := fun _ => ⟨rfl, rfl, rfl, rfl, rfl, rfl⟩
  unfold setQuiescing
  split
  · exact hwritten _
  · exact (hwritten _).trans (raise_frame _ _).command

theorem resetTables_commandFrame (s : State) : CommandFrame s (resetTables s) := ⟨rfl, rfl, rfl, rfl, rfl, rfl⟩

theorem datapathReset_commandFrame (s : State) : CommandFrame s (setQuiescing (presentAll (resetTables s))) :=
  ((resetTables_commandFrame s).trans (presentAll_commandFrame _)).trans (setQuiescing_commandFrame _)

section Commands

variable (s : State)

theorem cmdSetStream_proper (a : SetStreamArgs) : (cmdSetStream a s).Proper s := by
  cases hg : checkSetStream a with
  | none =>
    rw [cmdSetStream_badArg hg]
    exact .refused _ (by decide)
  | some g =>
    rw [cmdSetStream_checked hg]
    split
    · exact .refused _ (by decide)
    · split
      · exact .refused _ (by decide)
      · exact .rotated (modStream_frame s _ _)

theorem cmdClearStream_proper (b : Byte) : (cmdClearStream b s).Proper s := by
  unfold cmdClearStream
  split
  · exact .refused _ (by decide)
  · split
    · exact .rotated (modStream_frame s _ _)
    · exact .refused _ (by decide)

theorem cmdSetConsumer_proper (a : SetConsumerArgs) : (cmdSetConsumer a s).Proper s := by
  unfold cmdSetConsumer
  split
  · exact .refused _ (by decide)
  · split
    · exact .refused _ (by decide)
    · split
      · exact .rotated (modSlot_frame s _ _ _)
      · split
        · exact .refused _ (by decide)
        · exact .rotated (modSlot_frame s _ _ _)

theorem cmdAssignPage_proper (a : AssignPageArgs) : (cmdAssignPage a s).Proper s := by
  unfold cmdAssignPage
  split
  · exact .refused _ (by decide)
  · split
    · exact .refused _ (by decide)
    · split
      · exact .refused _ (by decide)
      · exact .rotated ((modPage_frame s _ _).trans (modStream_frame _ _ _))

theorem cmdUnassignPage_proper (b : Byte) : (cmdUnassignPage b s).Proper s := by
  have howned : ∀ p n, (unassign p n s).Proper s := fun p n => by
    unfold unassign
    split
    · exact .refused _ (by decide)
    · split
      · exact .refused _ (by decide)
      · exact .rotated ((modPage_frame s _ _).trans (modStream_frame _ _ _))
  unfold cmdUnassignPage
  split
  · exact .refused _ (by decide)
  · split
    · split
      · exact howned _ _
      · exact .refused _ (by decide)
    · exact .refused _ (by decide)

theorem cmdStartStream_proper (b : Byte) : (cmdStartStream b s).Proper s := by
  unfold cmdStartStream
  split
  · exact .refused _ (by decide)
  · split
    · exact .refused _ (by decide)
    · split
      · exact .refused _ (by decide)
      · split
        · exact .refused _ (by decide)
        · split
          · exact .refused _ (by decide)
          · exact .rotated (startOn_frame _ _ s)

theorem cmdStopStream_proper (b : Byte) : (cmdStopStream b s).Proper s := by
  unfold cmdStopStream
  split
  · exact .refused _ (by decide)
  · split
    · exact .refused _ (by decide)
    · exact .rotated (RotationFrame.refl s)
    · exact .rotated (RotationFrame.refl s)
    · exact .rotated (stopRunning_frame _ s)

theorem cmdFreeze_proper (b t o : Byte) : (cmdFreeze b t o s).Proper s := by
  unfold cmdFreeze
  split
  · split
    · exact .refused _ (by decide)
    · split
      · exact .rotated (modStream_frame s _ _)
      · exact .rotated (modSlot_frame s _ _ _)
  · exact .refused _ (by decide)

theorem cmdSetArbiter_proper (w0 w1 w2 w3 : Byte) : (cmdSetArbiter w0 w1 w2 w3 s).Proper s := by
  rcases cmdSetArbiter_cases w0 w1 w2 w3 s with ⟨_, e⟩ | ⟨_, e⟩ <;> rw [e]
  · exact .taken [] _ ⟨rfl, rfl, rfl, rfl, rfl, rfl⟩
  · exact .refused _ (by decide)

theorem cmdSetEvents_proper (w : Byte) (m : Word16) : (cmdSetEvents w m s).Proper s := by
  rcases cmdSetEvents_cases w m s with ⟨_, e⟩ | ⟨_, e⟩ <;> rw [e]
  · exact .taken [] _ ⟨rfl, rfl, rfl, rfl, rfl, rfl⟩
  · exact .refused _ (by decide)

theorem cmdPopEvents_proper (k : Byte) : (cmdPopEvents k s).Proper s := by
  rcases cmdPopEvents_cases k s with ⟨_, e⟩ | ⟨_, e⟩ <;> rw [e]
  · exact .taken _ _ ⟨rfl, rfl, rfl, rfl, rfl, rfl⟩
  · exact .refused _ (by decide)

theorem cmdReadStream_proper (b : Byte) : (cmdReadStream b s).Proper s := by
  unfold cmdReadStream
  split
  · exact .refused _ (by decide)
  · exact .taken _ s (CommandFrame.refl s)

theorem cmdReadPage_proper (b : Byte) : (cmdReadPage b s).Proper s := by
  unfold cmdReadPage
  split
  · exact .refused _ (by decide)
  · exact .taken _ s (CommandFrame.refl s)

theorem cmdReadCounters_proper (g n x c : Byte) : (cmdReadCounters g n x c s).Proper s := by
  have hread : ∀ g c, CommandFrame s (groupRead g c s) := fun g c => by
    cases c <;> cases g <;> exact ⟨rfl, rfl, rfl, rfl, rfl, rfl⟩
  unfold cmdReadCounters
  split
  · exact .taken _ _ (hread _ _)
  · exact .refused _ (by decide)

theorem cmdDatapathReset_proper (b : Byte) : (cmdDatapathReset b s).Proper s := by
  unfold cmdDatapathReset
  split
  · exact .taken [] _ (datapathReset_commandFrame s)
  · exact .refused _ (by decide)

end Commands

/-! ## Every frame of at least one whole byte (R165 to R168) -/

/-- The frame of these bytes that event i is has a command answered by it, with waiting requests tested again behind it or
not; a re-test follows only a command that is taken. -/
def FrameAnswered (i : Instr) (bytes : List Byte) (s : State) : Prop :=
  ∃ command : State → Answer, (command (shiftFrame bytes s)).Proper (shiftFrame bytes s)
    ∧ (exec i s = .next (answerFrame bytes command s)
      ∨ (command (shiftFrame bytes s)).code = .ok ∧ exec i s = .next (testWaiting (answerFrame bytes command s)))

section Frames

variable {i : Instr} {bytes : List Byte} {command : State → Answer} {s : State} (hr : PortReady s)
include hr

theorem frameAnswered_of_frameEnd (hc : ∀ u, (command u).Proper u) (he : exec i s = .next (frameEnd bytes command s)) :
    FrameAnswered i bytes s := by
  rw [frameEnd_ready hr] at he
  exact ⟨command, hc _, Or.inl he⟩

theorem frameAnswered_of_steering (hc : ∀ u, (command u).Proper u)
    (he : exec i s = .next (steeringFrameEnd bytes command s)) : FrameAnswered i bytes s := by
  by_cases hok : (command (shiftFrame bytes s)).code = .ok
  · rw [steeringFrameEnd_taken hr hok] at he
    exact ⟨command, hc _, Or.inr ⟨hok, he⟩⟩
  · rw [steeringFrameEnd_refused hr hok] at he
    exact ⟨command, hc _, Or.inl he⟩

/-- The end of every frame of at least one whole byte answers a command, an undefined code and a short frame included. -/
theorem exec_frameAnswered {bits : List Bool} (hf : frameOf i = some (bytes, bits)) (hne : bytes ≠ []) :
    FrameAnswered i bytes s := by
  cases i <;> cases hf
  case nop f => exact frameAnswered_of_frameEnd hr (fun u => .taken _ u (CommandFrame.refl u)) rfl
  case setStream a f => exact frameAnswered_of_steering hr (fun u => cmdSetStream_proper u a) rfl
  case clearStream b f => exact frameAnswered_of_steering hr (fun u => cmdClearStream_proper u b) rfl
  case setConsumer a f => exact frameAnswered_of_steering hr (fun u => cmdSetConsumer_proper u a) rfl
  case assignPage a f => exact frameAnswered_of_steering hr (fun u => cmdAssignPage_proper u a) rfl
  case unassignPage b f => exact frameAnswered_of_steering hr (fun u => cmdUnassignPage_proper u b) rfl
  case startStream b f => exact frameAnswered_of_steering hr (fun u => cmdStartStream_proper u b) rfl
  case stopStream b f => exact frameAnswered_of_steering hr (fun u => cmdStopStream_proper u b) rfl
  case freeze b t o f => exact frameAnswered_of_frameEnd hr (fun u => cmdFreeze_proper u b t o) rfl
  case setArbiter w0 w1 w2 w3 f => exact frameAnswered_of_frameEnd hr (fun u => cmdSetArbiter_proper u w0 w1 w2 w3) rfl
  case setEvents w m f => exact frameAnswered_of_frameEnd hr (fun u => cmdSetEvents_proper u w m) rfl
  case popEvents k f => exact frameAnswered_of_frameEnd hr (fun u => cmdPopEvents_proper u k) rfl
  case readStream b f => exact frameAnswered_of_frameEnd hr (fun u => cmdReadStream_proper u b) rfl
  case readPage b f => exact frameAnswered_of_frameEnd hr (fun u => cmdReadPage_proper u b) rfl
  case readCounters g n x c f => exact frameAnswered_of_frameEnd hr (fun u => cmdReadCounters_proper u g n x c) rfl
  case datapathReset b f => exact frameAnswered_of_steering hr (fun u => cmdDatapathReset_proper u b) rfl
  case unknownCommand c f => exact frameAnswered_of_frameEnd hr (fun _ => .refused .unknown (by decide)) rfl
  case discardedFrame => exact absurd rfl hne
  case shortFrame c f => exact frameAnswered_of_frameEnd hr (fun _ => .refused .short (by decide)) rfl

end Frames

/-- A frame of no whole byte: the partial byte is discarded, and the first bit of the response has gone out (R164, R165). -/
theorem exec_discardedFrame (bits : List Bool) {s : State} (hr : PortReady s) :
    exec (.discardedFrame bits) s =
      .next (recordMdo [(s.response.getD 0 0).getMsbD 0] { s with rx := Receiver.empty, mdo := .notDriven }) := by
  rw [← firstOutboundBit_eq]
  exact congrArg Host.Outcome.next (if_pos ((portReady_iff s).1 hr))

/-! ## Events that are no frame -/

/-- An event that is neither a frame nor a pin reset writes no response and drives no frame's bits on MDO. -/
theorem exec_leaves_response {i : Instr} {s t : State} (hf : frameOf i = none) (hp : i ≠ .pinReset)
    (he : exec i s = .next t) : t.response = s.response ∧ t.links.mdoBits = s.links.mdoBits := by
  have whenHigh : ∀ u : State, TrafficFrame s u →
      (if s.resetn then u else s).response = s.response ∧ (if s.resetn then u else s).links.mdoBits = s.links.mdoBits :=
    fun u hu => by
      split
      · exact ⟨hu.response, hu.mdoBits⟩
      · exact ⟨rfl, rfl⟩
  cases i <;> cases hf <;> cases he
  case boundaryEvent n => exact whenHigh _ (boundary_frame n s)
  case takeEvent n x => exact whenHigh _ (take_frame n x s)
  case acceptance p r urg =>
    split
    · have hframe := ((seeUrg_frame urg s).trans (acceptHead_frame p (headRequest s p r) _)).trans (testWaiting_frame _)
      exact ⟨hframe.response, hframe.mdoBits⟩
    · exact ⟨rfl, rfl⟩
  case indication urg =>
    have hcounted : TrafficFrame s (countIndication (seeUrg urg s)) := by constructor <;> rfl
    exact whenHigh _ ((hcounted.trans (runGrants_frame _)).trans (testWaiting_frame _))
  case downstreamCompletion c => exact whenHigh _ (complete_frame c s)
  case delivery p => exact whenHigh _ (deliver_frame p s)
  case pinReset => exact absurd rfl hp
  case resetnRise low =>
    split
    · exact ⟨rfl, rfl⟩
    · have hframe := testWaiting_frame
        { s with resetn := true, awaitRise := low, mdo := if low then .driven false else .notDriven }
      exact ⟨hframe.response, hframe.mdoBits⟩
  case chipSelectRiseAfterPinReset => split <;> exact ⟨rfl, rfl⟩

/-! ## What a frame shifts out, and what a refused command leaves -/

/-- Settles O3: a frame's command writes neither the receiver nor the record of what went out, and neither does a re-test
behind it. -/
theorem frameShiftsOutTheOldResponse : Obligations.FrameShiftsOutTheOldResponse := by
  refine ⟨fun i bytes bits s hf hne hr => ?_, fun bits s hr => ?_, fun i s hf hp => ?_⟩
  · obtain ⟨command, hproper, hexec⟩ := exec_frameAnswered hr hf hne
    have htaken := answerFrame_taken hproper.commandFrame
    rcases hexec with hexec | ⟨_, hexec⟩
    · exact ⟨_, _, _, hexec, Or.inl rfl, htaken, rfl, rfl, rfl, rfl⟩
    · have hframe := testWaiting_frame (answerFrame bytes command s)
      exact ⟨_, _, _, hexec, Or.inr (testWaiting_retested _), htaken, hframe.response, hframe.rx, hframe.mdo, hframe.mdoBits⟩
  · exact ⟨_, exec_discardedFrame bits hr, rfl, rfl, rfl, rfl⟩
  · obtain ⟨t, he⟩ : ∃ t, exec i s = .next t := by cases i <;> exact ⟨_, rfl⟩
    exact ⟨t, he, exec_leaves_response hf hp he⟩

/-- Settles O4: the first byte of a response is the result code, and a re-test follows the result OK alone. -/
theorem refusedCommandsChangeNothing : Obligations.RefusedCommandsChangeNothing := by
  intro i bytes bits s hf hne hr
  obtain ⟨command, hproper, hexec⟩ := exec_frameAnswered hr hf hne
  generalize hanswer : command (shiftFrame bytes s) = answer at hproper hexec
  cases hproper with
  | taken data u hu =>
    have hresponse : (answerFrame bytes command s).response.head? = some 0x00 := by
      unfold answerFrame
      rw [hanswer]
      rfl
    rcases hexec with hexec | ⟨_, hexec⟩
    · exact ⟨_, hexec, fun h => absurd hresponse h⟩
    · refine ⟨_, hexec, fun h => absurd ?_ h⟩
      rw [(testWaiting_frame _).response]
      exact hresponse
  | refused code hcode =>
    rcases hexec with hexec | ⟨hok, _⟩
    · obtain ⟨t, ht, hrefused⟩ := refused_of hf hexec hanswer
      exact ⟨t, ht, fun _ => ⟨_, hrefused⟩⟩
    · exact absurd hok hcode

/-! ## Frames without a command, and NOP -/

/-- Settles O9: UNKNOWN and SHORT are refusals, and a frame of no whole byte writes the receiver and MDO alone. -/
theorem framesWithoutACommand : Obligations.FramesWithoutACommand := by
  refine ⟨fun code f s hr _ => ?_, fun code k f s hr _ _ => ?_, fun bits s hr => ?_⟩
  · exact refused_of (code := .unknown) (bytes := [code] ++ f.extra) rfl
      (congrArg Host.Outcome.next (frameEnd_ready hr)) rfl
  · exact refused_of (code := .short) (bytes := [code] ++ f.extra) rfl
      (congrArg Host.Outcome.next (frameEnd_ready hr)) rfl
  · exact ⟨_, exec_discardedFrame bits hr, rfl, ⟨rfl, rfl⟩, ⟨rfl, rfl, rfl, rfl, rfl, rfl⟩, ⟨rfl, rfl, rfl, rfl, rfl⟩, rfl, hr⟩

/-- The result data of NOP, byte by byte (R173, R187). -/
theorem nopData_eq (s : State) :
    nopData s = [0x24, 0x08, 0x01, if s.datapath = .quiescing then 0x01 else 0x00, BitVec.ofNat 8 s.events.length,
      if s.attn then 0x01 else 0x00] := by
  have hdatapath : s.datapath.byte = if s.datapath = .quiescing then 0x01 else 0x00 := by cases s.datapath <;> rfl
  rw [← hdatapath]
  rfl

/-- Settles O10: the answer of NOP is its report on the state it finds. -/
theorem nopReportsIdentityAndStatus : Obligations.NopReportsIdentityAndStatus := by
  intro f s hr
  have hexec : exec (.nop f) s = .next (answerFrame ([0x00] ++ f.extra) cmdNop s) :=
    congrArg Host.Outcome.next (frameEnd_ready hr)
  obtain ⟨hstate, hframed⟩ := answered_of (i := .nop f) (command := cmdNop) (data := nopData s) rfl rfl
    (CommandFrame.refl (shiftFrame ([0x00] ++ f.extra) s))
  rw [hstate] at hexec
  rw [nopData_eq] at hframed hexec
  exact ⟨_, hexec, hframed, ⟨rfl, rfl⟩, ⟨rfl, rfl, rfl, rfl, rfl, rfl⟩, ⟨rfl, rfl, rfl, rfl, rfl⟩⟩

end Sys2Proof.Machine

/-! PROOFS. Management frames as bytes and as serial bits: writing a frame and reading it are inverse to each other (O6). -/

namespace Sys2Proof.Machine

/-! ## The bits of a byte (R164) -/

theorem getLsbD_toNat (b : Byte) (k : Nat) : (b.getLsbD k).toNat = b.toNat / 2 ^ k % 2 := Nat.toNat_testBit _ _

/-- Eight bits assemble the byte that sent them. -/
theorem byteOfBits_getLsbD (b : Byte) :
    byteOfBits (b.getLsbD 7) (b.getLsbD 6) (b.getLsbD 5) (b.getLsbD 4) (b.getLsbD 3) (b.getLsbD 2) (b.getLsbD 1)
      (b.getLsbD 0) = b := by
  have hstep : ∀ k, b.toNat / 2 ^ k = 2 * (b.toNat / 2 ^ (k + 1)) + (b.getLsbD k).toNat := fun k => by
    rw [getLsbD_toNat, pow_succ, ← Nat.div_div_eq_div_mul, Nat.div_add_mod]
  have htop : b.toNat / 2 ^ 8 = 0 := Nat.div_eq_of_lt b.isLt
  have hlow : b.toNat / 2 ^ 0 = b.toNat := Nat.div_one _
  have hsum : 128 * (b.getLsbD 7).toNat + 64 * (b.getLsbD 6).toNat + 32 * (b.getLsbD 5).toNat + 16 * (b.getLsbD 4).toNat
      + 8 * (b.getLsbD 3).toNat + 4 * (b.getLsbD 2).toNat + 2 * (b.getLsbD 1).toNat + (b.getLsbD 0).toNat = b.toNat := by
    linarith [hstep 0, hstep 1, hstep 2, hstep 3, hstep 4, hstep 5, hstep 6, hstep 7]
  rw [byteOfBits, hsum, BitVec.ofNat_toNat, BitVec.setWidth_eq]

theorem receiveBits_byteBits (b : Byte) (rest : List Bool) :
    receiveBits (byteBits b ++ rest) = (b :: (receiveBits rest).1, (receiveBits rest).2) :=
  congrArg (fun c => (c :: (receiveBits rest).1, (receiveBits rest).2)) (byteOfBits_getLsbD b)

/-- Fewer than eight bits complete no byte. -/
theorem receiveBits_partial {bits : List Bool} (h : bits.length < 8) : receiveBits bits = ([], bits) := by
  unfold receiveBits
  split
  · simp only [List.length_cons] at h
    omega
  · rfl

theorem receiveBits_serialBits (bytes : List Byte) {bits : List Bool} (h : bits.length < 8) :
    receiveBits (serialBits bytes bits) = (bytes, bits) := by
  induction bytes with
  | nil => exact receiveBits_partial h
  | cons b rest ih =>
    have hsplit : serialBits (b :: rest) bits = byteBits b ++ serialBits rest bits := by
      rw [serialBits, List.flatMap_cons, List.append_assoc, serialBits]
    rw [hsplit, receiveBits_byteBits, ih]

/-! ## Numbers and their bytes (R185) -/

/-- Neighbouring bits of a number make one run of its bits. -/
theorem extractLsb'_append_extractByte {n : Nat} (w : BitVec n) (k m : Nat) :
    w.extractLsb' (k + 8) m ++ w.extractLsb' k 8 = w.extractLsb' k (m + 8) :=
  BitVec.extractLsb'_append_extractLsb'_eq_extractLsb' rfl

theorem joinWord16_bytes (w : Word16) : joinWord16 (w.extractLsb' 8 8) (w.extractLsb' 0 8) = w :=
  (extractLsb'_append_extractByte w 0 8).trans BitVec.extractLsb'_eq_self

theorem joinWord32_bytes (w : Word32) :
    joinWord32 (w.extractLsb' 24 8) (w.extractLsb' 16 8) (w.extractLsb' 8 8) (w.extractLsb' 0 8) = w := by
  have hfirst : w.extractLsb' 24 8 ++ w.extractLsb' 16 8 = w.extractLsb' 16 16 := extractLsb'_append_extractByte w 16 8
  have hsecond : w.extractLsb' 16 16 ++ w.extractLsb' 8 8 = w.extractLsb' 8 24 := extractLsb'_append_extractByte w 8 16
  have hthird : w.extractLsb' 8 24 ++ w.extractLsb' 0 8 = w.extractLsb' 0 32 := extractLsb'_append_extractByte w 0 24
  rw [joinWord32, hfirst, hsecond, hthird, BitVec.extractLsb'_eq_self]

theorem joinAddr_bytes (a : Addr) :
    joinAddr (a.extractLsb' 32 8) (a.extractLsb' 24 8) (a.extractLsb' 16 8) (a.extractLsb' 8 8) (a.extractLsb' 0 8) = a := by
  have hfirst : a.extractLsb' 32 8 ++ a.extractLsb' 24 8 = a.extractLsb' 24 16 := extractLsb'_append_extractByte a 24 8
  have hsecond : a.extractLsb' 24 16 ++ a.extractLsb' 16 8 = a.extractLsb' 16 24 := extractLsb'_append_extractByte a 16 16
  have hthird : a.extractLsb' 16 24 ++ a.extractLsb' 8 8 = a.extractLsb' 8 32 := extractLsb'_append_extractByte a 8 24
  have hfourth : a.extractLsb' 8 32 ++ a.extractLsb' 0 8 = a.extractLsb' 0 40 := extractLsb'_append_extractByte a 0 32
  rw [joinAddr, hfirst, hsecond, hthird, hfourth, BitVec.extractLsb'_eq_self]

theorem word16Bytes_join (b0 b1 : Byte) : word16Bytes (joinWord16 b0 b1) = [b0, b1] := by
  rw [word16Bytes, joinWord16, BitVec.extractLsb'_append_eq_left, BitVec.extractLsb'_append_eq_right]

/-- The bytes of a number that ends in byte b are those of the number in front of it, and b. -/
theorem extractLsb'_append_byte {n : Nat} (x : BitVec n) (b : Byte) (k : Nat) :
    (x ++ b).extractLsb' (k + 8) 8 = x.extractLsb' k 8 := BitVec.extractLsb'_append_eq_of_le (Nat.le_add_left 8 k)

theorem word32Bytes_join (b0 b1 b2 b3 : Byte) : word32Bytes (joinWord32 b0 b1 b2 b3) = [b0, b1, b2, b3] := by
  have hlast : (joinWord32 b0 b1 b2 b3).extractLsb' 0 8 = b3 := BitVec.extractLsb'_append_eq_right
  have hthird : (joinWord32 b0 b1 b2 b3).extractLsb' 8 8 = b2 :=
    (extractLsb'_append_byte _ b3 0).trans BitVec.extractLsb'_append_eq_right
  have hsecond : (joinWord32 b0 b1 b2 b3).extractLsb' 16 8 = b1 :=
    ((extractLsb'_append_byte _ b3 8).trans (extractLsb'_append_byte _ b2 0)).trans BitVec.extractLsb'_append_eq_right
  have hfirst : (joinWord32 b0 b1 b2 b3).extractLsb' 24 8 = b0 :=
    ((extractLsb'_append_byte _ b3 16).trans (extractLsb'_append_byte _ b2 8)).trans BitVec.extractLsb'_append_eq_left
  rw [word32Bytes, hlast, hthird, hsecond, hfirst]

theorem addrBytes_join (b0 b1 b2 b3 b4 : Byte) : addrBytes (joinAddr b0 b1 b2 b3 b4) = [b0, b1, b2, b3, b4] := by
  have hlast : (joinAddr b0 b1 b2 b3 b4).extractLsb' 0 8 = b4 := BitVec.extractLsb'_append_eq_right
  have hfront : ∀ k, (joinAddr b0 b1 b2 b3 b4).extractLsb' (k + 8) 8 = (joinWord32 b0 b1 b2 b3).extractLsb' k 8 :=
    extractLsb'_append_byte _ b4
  have hword : addrBytes (joinAddr b0 b1 b2 b3 b4) = word32Bytes (joinWord32 b0 b1 b2 b3) ++ [b4] := by
    rw [addrBytes, hfront 24, hfront 16, hfront 8, hfront 0, hlast]
    rfl
  rw [hword, word32Bytes_join]
  rfl

/-! ## Arguments by their offsets (R186) -/

theorem decodeSetStream_bytes (a : SetStreamArgs) (rest : List Byte) : decodeSetStream (setStreamBytes a ++ rest) = a := by
  have hbase : argAddr (setStreamBytes a ++ rest) 1 = a.base := joinAddr_bytes a.base
  have hlines : argWord16 (setStreamBytes a ++ rest) 6 = a.lines := joinWord16_bytes a.lines
  have hlength : argWord16 (setStreamBytes a ++ rest) 8 = a.lineLength := joinWord16_bytes a.lineLength
  have hstride : argWord32 (setStreamBytes a ++ rest) 10 = a.stride := joinWord32_bytes a.stride
  have hfill : argWord32 (setStreamBytes a ++ rest) 18 = a.fill := joinWord32_bytes a.fill
  rw [decodeSetStream, hbase, hlines, hlength, hstride, hfill]
  rfl

theorem decodeSetConsumer_bytes (a : SetConsumerArgs) (rest : List Byte) :
    decodeSetConsumer (setConsumerBytes a ++ rest) = a := by
  have hbase : argAddr (setConsumerBytes a ++ rest) 4 = a.base := joinAddr_bytes a.base
  have hlines : argWord16 (setConsumerBytes a ++ rest) 9 = a.lines := joinWord16_bytes a.lines
  have hlength : argWord16 (setConsumerBytes a ++ rest) 11 = a.lineLength := joinWord16_bytes a.lineLength
  have hcropLine : argWord16 (setConsumerBytes a ++ rest) 13 = a.cropLine := joinWord16_bytes a.cropLine
  have hcropByte : argWord16 (setConsumerBytes a ++ rest) 15 = a.cropByte := joinWord16_bytes a.cropByte
  rw [decodeSetConsumer, hbase, hlines, hlength, hcropLine, hcropByte]
  rfl

theorem decodeAssignPage_bytes (a : AssignPageArgs) (rest : List Byte) :
    decodeAssignPage (assignPageBytes a ++ rest) = a := by
  have hbase : argAddr (assignPageBytes a ++ rest) 2 = a.base := joinAddr_bytes a.base
  have hsize : argWord32 (assignPageBytes a ++ rest) 7 = a.size := joinWord32_bytes a.size
  rw [decodeAssignPage, hbase, hsize]
  rfl

/-- The first n argument bytes. -/
def argBytes (args : List Byte) (n : Nat) : List Byte := (List.range n).map (argByte args)

theorem argBytes_append_drop {args : List Byte} {n : Nat} (h : n ≤ args.length) : argBytes args n ++ args.drop n = args := by
  have htake : argBytes args n = args.take n := by
    apply List.ext_getElem
    · simp [argBytes, h]
    · intro k h1 h2
      have hk : k < args.length := by
        rw [List.length_take] at h2
        omega
      simp [argBytes, argByte, hk]
  rw [htake, List.take_append_drop]

theorem setStreamBytes_decode (args : List Byte) : setStreamBytes (decodeSetStream args) = argBytes args 22 := by
  simp only [setStreamBytes, decodeSetStream, argAddr, argWord16, argWord32, addrBytes_join, word16Bytes_join,
    word32Bytes_join]
  rfl

theorem setConsumerBytes_decode (args : List Byte) : setConsumerBytes (decodeSetConsumer args) = argBytes args 18 := by
  simp only [setConsumerBytes, decodeSetConsumer, argAddr, argWord16, addrBytes_join, word16Bytes_join]
  rfl

theorem assignPageBytes_decode (args : List Byte) : assignPageBytes (decodeAssignPage args) = argBytes args 11 := by
  simp only [assignPageBytes, decodeAssignPage, argAddr, argWord32, addrBytes_join, word32Bytes_join]
  rfl

/-! ## Commands and their frames (R166, R171) -/

/-- The frame of a command that has been read holds the argument bytes it was read from, and its tail. -/
theorem frameOf_decodeCommand {code : Byte} {n : Nat} (h : commandArgs code = some n) (args : List Byte) (f : FrameTail) :
    frameOf (decodeCommand code args f) = some (code :: (argBytes args n ++ f.extra), f.partialBits) := by
  have hsame : ∀ (code : Byte) {l m : List Byte}, l = m →
      some (code :: (l ++ f.extra), f.partialBits) = some (code :: (m ++ f.extra), f.partialBits) :=
    fun _ _ _ e => by rw [e]
  unfold commandArgs at h
  split at h <;> cases h
  case h_2 => exact hsame _ (setStreamBytes_decode args)
  case h_4 => exact hsame _ (setConsumerBytes_decode args)
  case h_5 => exact hsame _ (assignPageBytes_decode args)
  case h_11 => exact hsame _ (congrArg (argByte args 0 :: ·) (word16Bytes_join _ _))
  all_goals rfl

theorem decodeCommand_wellFormed {code : Byte} {n : Nat} (h : commandArgs code = some n) (args : List Byte)
    (f : FrameTail) : (decodeCommand code args f).wellFormed = f.wellFormed := by
  unfold commandArgs at h
  split at h <;> cases h <;> rfl

/-! ### Reading a frame (R165, R166) -/

theorem decodeFrame_unknown {code : Byte} (h : commandArgs code = none) (args : List Byte) (bits : List Bool) :
    decodeFrame (code :: args) bits = .unknownCommand code { extra := args, partialBits := bits } := by
  unfold decodeFrame
  dsimp only
  rw [h]

theorem decodeFrame_short {code : Byte} {n : Nat} (h : commandArgs code = some n) {args : List Byte}
    (hn : args.length < n) (bits : List Bool) :
    decodeFrame (code :: args) bits = .shortFrame code { extra := args, partialBits := bits } := by
  unfold decodeFrame
  dsimp only
  rw [h]
  exact if_pos hn

theorem decodeFrame_command {code : Byte} {n : Nat} (h : commandArgs code = some n) {args : List Byte}
    (hn : n ≤ args.length) (bits : List Bool) :
    decodeFrame (code :: args) bits = decodeCommand code args { extra := args.drop n, partialBits := bits } := by
  unfold decodeFrame
  dsimp only
  rw [h]
  exact if_neg (Nat.not_lt.2 hn)

/-- A frame that brings exactly the arguments of its command, and further bytes behind them. -/
theorem decodeFrame_arguments {code : Byte} {args : List Byte} (h : commandArgs code = some args.length) (f : FrameTail) :
    decodeFrame (code :: (args ++ f.extra)) f.partialBits = decodeCommand code (args ++ f.extra) f := by
  rw [decodeFrame_command h (List.length_append ▸ Nat.le_add_right _ _), List.drop_left]

/-- What a frame has been read as is written as that frame. -/
theorem frameOf_decodeFrame (bytes : List Byte) {bits : List Bool} (hbits : bits.length < 8) :
    (decodeFrame bytes bits).wellFormed = true ∧ frameOf (decodeFrame bytes bits) = some (bytes, bits) := by
  cases bytes with
  | nil => exact ⟨decide_eq_true hbits, rfl⟩
  | cons code args =>
    have htail : ∀ extra, FrameTail.wellFormed { extra := extra, partialBits := bits } = true := fun _ =>
      decide_eq_true hbits
    cases hcode : commandArgs code with
    | none =>
      rw [decodeFrame_unknown hcode, Instr.wellFormed, htail, hcode]
      exact ⟨rfl, rfl⟩
    | some n =>
      rcases Nat.lt_or_ge args.length n with hshort | hlong
      · rw [decodeFrame_short hcode hshort, Instr.wellFormed, htail, hcode]
        exact ⟨decide_eq_true hshort, rfl⟩
      · rw [decodeFrame_command hcode hlong, decodeCommand_wellFormed hcode, frameOf_decodeCommand hcode,
          argBytes_append_drop hlong]
        exact ⟨htail _, rfl⟩

/-- A well-formed event is what its frame is read as. -/
theorem decodeFrame_frameOf {i : Instr} {bytes : List Byte} {bits : List Bool} (hw : i.wellFormed = true)
    (hf : frameOf i = some (bytes, bits)) : decodeFrame bytes bits = i := by
  cases i <;> cases hf
  case setStream a f =>
    have hread := decodeFrame_arguments (code := 0x10) (args := setStreamBytes a) rfl f
    exact hread.trans (congrArg (Instr.setStream · f) (decodeSetStream_bytes a f.extra))
  case setConsumer a f =>
    have hread := decodeFrame_arguments (code := 0x12) (args := setConsumerBytes a) rfl f
    exact hread.trans (congrArg (Instr.setConsumer · f) (decodeSetConsumer_bytes a f.extra))
  case assignPage a f =>
    have hread := decodeFrame_arguments (code := 0x20) (args := assignPageBytes a) rfl f
    exact hread.trans (congrArg (Instr.assignPage · f) (decodeAssignPage_bytes a f.extra))
  case setEvents w m f =>
    have hread := decodeFrame_arguments (code := 0x41) (args := w :: word16Bytes m) rfl f
    exact hread.trans (congrArg (Instr.setEvents w · f) (joinWord16_bytes m))
  case nop f => exact decodeFrame_arguments (code := 0x00) (args := []) rfl f
  case clearStream b f => exact decodeFrame_arguments (code := 0x11) (args := [b]) rfl f
  case unassignPage b f => exact decodeFrame_arguments (code := 0x21) (args := [b]) rfl f
  case startStream b f => exact decodeFrame_arguments (code := 0x30) (args := [b]) rfl f
  case stopStream b f => exact decodeFrame_arguments (code := 0x31) (args := [b]) rfl f
  case freeze b t o f => exact decodeFrame_arguments (code := 0x32) (args := [b, t, o]) rfl f
  case setArbiter w0 w1 w2 w3 f => exact decodeFrame_arguments (code := 0x40) (args := [w0, w1, w2, w3]) rfl f
  case popEvents k f => exact decodeFrame_arguments (code := 0x50) (args := [k]) rfl f
  case readStream b f => exact decodeFrame_arguments (code := 0x51) (args := [b]) rfl f
  case readPage b f => exact decodeFrame_arguments (code := 0x52) (args := [b]) rfl f
  case readCounters g n x c f => exact decodeFrame_arguments (code := 0x53) (args := [g, n, x, c]) rfl f
  case datapathReset b f => exact decodeFrame_arguments (code := 0x7E) (args := [b]) rfl f
  case unknownCommand code f =>
    simp only [Instr.wellFormed, Bool.and_eq_true, Option.isNone_iff_eq_none] at hw
    exact decodeFrame_unknown hw.2 f.extra f.partialBits
  case discardedFrame => rfl
  case shortFrame code f =>
    simp only [Instr.wellFormed, Bool.and_eq_true] at hw
    obtain ⟨_, hshort⟩ := hw
    split at hshort
    · next n hn => exact decodeFrame_short hn (of_decide_eq_true hshort) f.partialBits
    · cases hshort

/-- Settles O6: reading undoes writing and writing undoes reading, for bytes and for bits. -/
theorem framesAndCommandsCorrespond : Obligations.FramesAndCommandsCorrespond :=
  ⟨fun _ _ _ hw hf => decodeFrame_frameOf hw hf, fun bytes _ hbits => frameOf_decodeFrame bytes hbits,
    fun bytes _ hbits => receiveBits_serialBits bytes hbits⟩

end Sys2Proof.Machine

/-! PROOFS. The snapshots of READ-STREAM and READ-PAGE, byte by byte (O22). -/

namespace Sys2Proof.Machine

/-! ## Fields of a record as bytes (R185) -/

theorem word16Bytes_eq (w : Word16) : word16Bytes w = bigEndian 2 w.toNat := by
  have hbyte := extractByte_eq w
  rw [word16Bytes, hbyte 1, hbyte 0]
  rfl

theorem numByte_toNat (b : Byte) : numByte b.toNat = b := (BitVec.ofNat_toNat 8 b).trans (BitVec.setWidth_eq b)

theorem tagByte_eq (t : BitVec 6) : t.setWidth 8 = BitVec.ofNat 8 t.toNat := (BitVec.ofNat_toNat 8 t).symm

theorem frameBytes_eq (o : Option Word32) :
    frameBytes o = (if o = none then 0 else 1) :: word32Bytes (o.getD 0) := by
  cases o <;> rfl

/-- The eight positions of a page list, unused ones 0xFF (R176, R187). -/
def pagePositions (l : List PageId) : List Byte :=
  (List.range 8).map fun k => (l[k]?).elim 0xFF fun p => BitVec.ofNat 8 p.val

theorem pagePositions_getElem? (l : List PageId) {k : Nat} (hk : k < 8) :
    (pagePositions l)[k]? = some ((l[k]?).elim 0xFF fun p => BitVec.ofNat 8 p.val) := by
  rw [pagePositions, List.getElem?_map, List.getElem?_range hk]
  rfl

theorem pageListBytes_eq (l : List PageId) : pageListBytes l = numByte l.length :: pagePositions l := by
  refine congrArg (numByte l.length :: ·) (List.ext_getElem? fun k => ?_)
  by_cases hk : k < 8
  · rw [pagePositions_getElem? l hk, List.getElem?_take_of_lt hk]
    rcases Nat.lt_or_ge k l.length with hin | hout
    · rw [List.getElem?_append_left (by rwa [List.length_map]), List.getElem?_map, List.getElem?_eq_getElem hin]
      rfl
    · rw [List.getElem?_append_right (by rwa [List.length_map]), List.getElem?_replicate_of_lt (by omega),
        List.getElem?_eq_none hout]
      rfl
  · rw [List.getElem?_take, if_neg hk]
    exact (List.getElem?_eq_none (by simpa [pagePositions] using hk)).symm

/-! ## A slot's block (R176, R187) -/

theorem slotData_eq (sl : Slot) :
    slotData sl =
      [sl.conditionByte, sl.tag.setWidth 8] ++ addrBytes sl.base ++ word16Bytes sl.lines ++ word16Bytes sl.lineLength
        ++ word16Bytes sl.cropLine ++ word16Bytes sl.cropByte ++ [sl.staleThreshold, flagByte sl.freeze, optByte sl.held]
        ++ ((if sl.lastTaken = none then 0 else 1) :: word32Bytes (sl.lastTaken.getD 0))
        ++ [numByte sl.repeatsInRow, flagByte sl.staleRaised] := by
  rw [slotData, frameBytes_eq]

theorem slotData_length (sl : Slot) : (slotData sl).length = 25 := by
  rw [slotData_eq]
  rfl

theorem conditionByte_eq (sl : Slot) :
    sl.conditionByte = if sl.enabled = false then 0 else if sl.held = none then 1 else 2 := by
  unfold Slot.conditionByte
  cases sl.enabled <;> cases sl.held <;> rfl

/-- Where the block of a slot stands in a response, its items stand at their offsets. -/
theorem slotBlockAt_of_drop {k : Nat} {r back : List Byte} {sl : Slot} (h : r.drop k = slotData sl ++ back) :
    SlotBlockAt k r sl := by
  rw [slotData_eq] at h
  have hitem : ∀ j, r[k + j]? = (r.drop k)[j]? := fun j => List.getElem?_drop.symm
  have hrun : ∀ j n, (r.drop (k + j)).take n = ((r.drop k).drop j).take n := fun j n => by rw [List.drop_drop]
  simp only [h] at hitem hrun
  refine ⟨(hitem 0).trans (congrArg some (conditionByte_eq sl)), (hitem 1).trans (congrArg some (tagByte_eq sl.tag)),
    (hrun 2 5).trans (addrBytes_eq sl.base), (hrun 7 2).trans (word16Bytes_eq sl.lines),
    (hrun 9 2).trans (word16Bytes_eq sl.lineLength), (hrun 11 2).trans (word16Bytes_eq sl.cropLine),
    (hrun 13 2).trans (word16Bytes_eq sl.cropByte), hitem 15, hitem 16, (hitem 17).trans (congrArg some (optByte_eq sl.held)),
    hitem 18, (hrun 19 4).trans (word32Bytes_eq _), hitem 23, hitem 24⟩

/-! ## READ-STREAM (R18, R176) -/

/-- The result data of READ-STREAM in front of the two slot blocks. -/
def streamHead (n : StreamId) (st : Stream) : List Byte :=
  [numByte n.val, st.state.byte] ++ (addrBytes st.base ++ (word16Bytes st.lines ++ (word16Bytes st.lineLength
    ++ (word32Bytes st.stride
      ++ ([st.transform.byte, st.producerTag.setWidth 8, st.takePolicy.byte, st.poolPolicy.byte]
        ++ (word32Bytes st.fill ++ ([flagByte st.freeze] ++ (numByte st.ring.length :: pagePositions st.ring
          ++ (numByte st.ready.length :: pagePositions st.ready
            ++ ([optByte st.fillPage, flagByte st.starved, flagByte st.parity] ++ word32Bytes st.nextFrame))))))))))

theorem streamData_eq (n : StreamId) (st : Stream) :
    streamData n st = streamHead n st ++ (slotData st.slotA ++ slotData st.slotB) := by
  simp only [streamData, pageListBytes_eq, streamHead, List.append_assoc]

/-- Where the positions of a page list stand in a response, each stands at its offset. -/
theorem pagePositions_of_drop {j : Nat} {r back : List Byte} {l : List PageId} (h : r.drop j = pagePositions l ++ back)
    {k : Nat} (hk : k < 8) : r[j + k]? = some ((l[k]?).elim 0xFF fun p => BitVec.ofNat 8 p.val) := by
  rw [← List.getElem?_drop, h, List.getElem?_append_left (by simpa [pagePositions] using hk), pagePositions_getElem? l hk]

/-! ## READ-PAGE (R38, R177) -/

theorem pageData_eq (s : State) (p : PageId) :
    pageData s p =
      [numByte p.val, (s.page p).stage.byte, optByte (s.page p).owner] ++ addrBytes (s.page p).base
        ++ word32Bytes (s.page p).size
        ++ ((if (s.page p).frame = none then 0 else 1) :: word32Bytes ((s.page p).frame.getD 0))
        ++ [numByte (s.page p).writeCount, numByte (s.page p).readCount, flagByte (s.page p).holdA,
          flagByte (s.page p).holdB, flagByte (s.page p).damaged, (ringPosition s p).elim 0xFF numByte] := by
  rw [pageData, frameBytes_eq]
  cases ringPosition s p <;> rfl

theorem ringPosition_none {s : State} {p : PageId} (h : (s.page p).owner = none) : ringPosition s p = none := by
  unfold ringPosition
  rw [h]

/-- A page stands in its owner's ring at the first place that holds it. -/
theorem ringPosition_some {s : State} {p : PageId} {n : StreamId} {k : Nat} (h : (s.page p).owner = some n)
    (hk : (s.stream n).ring[k]? = some p) (hfirst : ∀ j, j < k → (s.stream n).ring[j]? ≠ some p) :
    ringPosition s p = some k := by
  unfold ringPosition
  rw [h]
  obtain ⟨hlt, hp⟩ := List.getElem?_eq_some_iff.1 hk
  refine List.findIdx?_eq_some_iff_getElem.2 ⟨hlt, beq_iff_eq.2 hp, fun j hj hb => hfirst j hj ?_⟩
  rw [List.getElem?_eq_getElem (hj.trans hlt), beq_iff_eq.1 hb]

/-! ## Both commands -/

theorem exec_readStream (b : Byte) (f : FrameTail) {s : State} (h : PortReady s) :
    exec (.readStream b f) s = .next (answerFrame ([0x51, b] ++ f.extra) (cmdReadStream b) s) :=
  congrArg Host.Outcome.next (frameEnd_ready h)

theorem exec_readPage (b : Byte) (f : FrameTail) {s : State} (h : PortReady s) :
    exec (.readPage b f) s = .next (answerFrame ([0x52, b] ++ f.extra) (cmdReadPage b) s) :=
  congrArg Host.Outcome.next (frameEnd_ready h)

/-- Settles O22: a number out of range refuses the command, and otherwise the record goes out at its offsets. -/
theorem streamAndPageSnapshots : Obligations.StreamAndPageSnapshots := by
  refine ⟨fun b f s hr hb => ?_, fun n b f s hr hb => ?_, fun b f s hr hb => ?_, fun p b f s hr hb => ?_⟩
  · refine refused_of (code := .badArg) rfl (exec_readStream b f hr) ?_
    unfold cmdReadStream
    rw [streamOf_eq_none hb]
  · have hexec := exec_readStream b f hr
    have hreport : ∀ u : State, cmdReadStream b u = Answer.report (streamData n (u.stream n)) u := fun u => by
      unfold cmdReadStream
      rw [streamOf_eq_some.2 hb]
    obtain ⟨hstate, hframed⟩ := answered_of (i := .readStream b f) rfl (hreport _) (CommandFrame.refl (shiftFrame _ s))
    rw [hstate] at hexec
    refine ⟨_, 0x00 :: streamData n (s.stream n), hexec, hframed, ⟨rfl, rfl⟩, ⟨rfl, rfl, rfl, rfl, rfl, rfl⟩,
      ⟨rfl, rfl, rfl, rfl, rfl⟩, ?_⟩
    rw [streamData_eq]
    generalize s.stream n = st
    refine ⟨?_, ?_, ?_, addrBytes_eq st.base, word16Bytes_eq st.lines, word16Bytes_eq st.lineLength,
      word32Bytes_eq st.stride, ?_, congrArg some (tagByte_eq st.producerTag), ?_, ?_, word32Bytes_eq st.fill, rfl,
      fun k hk => ?_, rfl, fun k hk => ?_, ?_, word32Bytes_eq st.nextFrame,
      slotBlockAt_of_drop rfl, slotBlockAt_of_drop (back := []) ?_⟩
    · rw [List.length_cons, List.length_append, List.length_append, slotData_length, slotData_length]
      rfl
    · rw [← numByte_toNat b, hb]
      rfl
    · show some st.state.byte = _
      cases st.state <;> rfl
    · show some st.transform.byte = _
      cases st.transform <;> rfl
    · show some st.takePolicy.byte = _
      cases st.takePolicy <;> rfl
    · show some st.poolPolicy.byte = _
      cases st.poolPolicy <;> rfl
    · exact pagePositions_of_drop (j := 26) rfl hk
    · exact pagePositions_of_drop (j := 35) rfl hk
    · rw [← optByte_eq]
      rfl
    · rw [List.append_nil]
      exact List.drop_left' (slotData_length st.slotA)
  · refine refused_of (code := .badArg) rfl (exec_readPage b f hr) ?_
    unfold cmdReadPage
    rw [pageOf_eq_none hb]
  · have hexec := exec_readPage b f hr
    have hreport : ∀ u : State, cmdReadPage b u = Answer.report (pageData u p) u := fun u => by
      unfold cmdReadPage
      rw [pageOf_eq_some.2 hb]
    obtain ⟨hstate, hframed⟩ := answered_of (i := .readPage b f) rfl (hreport _) (CommandFrame.refl (shiftFrame _ s))
    rw [hstate] at hexec
    refine ⟨_, 0x00 :: pageData s p, hexec, hframed, ⟨rfl, rfl⟩, ⟨rfl, rfl, rfl, rfl, rfl, rfl⟩,
      ⟨rfl, rfl, rfl, rfl, rfl⟩, ?_⟩
    rw [pageData_eq]
    refine ⟨rfl, ?_, ?_, congrArg some (optByte_eq _), addrBytes_eq _, word32Bytes_eq _, rfl, word32Bytes_eq _, rfl,
      fun hnone => ?_, fun n k howner hk hfirst => ?_⟩
    · rw [← numByte_toNat b, hb]
      rfl
    · show some (s.page p).stage.byte = _
      cases (s.page p).stage <;> rfl
    · rw [ringPosition_none hnone]
      rfl
    · rw [ringPosition_some howner hk hfirst]
      rfl

end Sys2Proof.Machine

/-! PROOFS. DATAPATH-RESET (O24): what it makes of each row of the tables, what the ports present behind it, and the datapath
state. -/

namespace Sys2Proof.Machine

/-! ## One row at a datapath reset (R2, R4, R37, R95, R130, R131) -/

theorem resetTables_stream (s : State) (n : StreamId) : (resetTables s).stream n = (s.stream n).afterReset := by
  simp [resetTables, State.stream]

theorem resetTables_page (s : State) (p : PageId) :
    (resetTables s).page p = (s.page p).afterReset (loweredAtReset s .write p) (loweredAtReset s .read p) := by
  simp [resetTables, State.page]

theorem Stream.afterReset_eq (st : Stream) :
    st.afterReset =
      { st with
        state := if st.state = .running ∨ st.state = .stopping then .off else st.state,
        fillPage := none, starved := false, starvedFrames := 0, parity := false, ready := [],
        slotA := { st.slotA with held := none }, slotB := { st.slotB with held := none } } := by
  simp only [Stream.afterReset, Stream.active_iff]

/-- A page in UNASSIGNED or FREE keeps its stage (R37). -/
theorem Page.afterReset_kept {pg : Page} (h : pg.stage = .unassigned ∨ pg.stage = .free) (w r : Nat) :
    pg.afterReset w r =
      { pg with writeCount := pg.writeCount - w, readCount := pg.readCount - r, damaged := false } :=
  if_pos (by simpa using h)

/-- Every other page is released with the counts that remain (R31, R37). -/
theorem Page.afterReset_released {pg : Page} (h : ¬ (pg.stage = .unassigned ∨ pg.stage = .free)) (w r : Nat) :
    pg.afterReset w r =
      { pg with
        writeCount := pg.writeCount - w, readCount := pg.readCount - r, damaged := false,
        frame := none, holdA := false, holdB := false,
        stage := if pg.writeCount - w = 0 ∧ pg.readCount - r = 0 then .free else .retiring } :=
  (if_neg (by simpa using h)).trans (Page.released_eq _)

theorem Entry.afterReset_free (en : Entry) : en.afterReset.state = .free ↔ en.state = .free := by
  by_cases hu : en.undelivered = true
  · rw [Entry.afterReset_of_undelivered hu]
    refine iff_of_false (fun h => by cases h) fun h => ?_
    simp [Entry.undelivered_iff, h] at hu
  · rw [Entry.afterReset_of_delivered hu]

theorem Piece.map_afterReset_status (l : List Piece) :
    (l.map Piece.afterReset).map (·.status) =
      l.map fun pc => if pc.status = .queued then .removed else pc.status := by
  rw [List.map_map]
  refine List.map_congr_left fun pc _ => ?_
  simp only [Function.comp_apply, Piece.afterReset, beq_iff_eq]

/-! ## The ports present again (R129) -/

/-- What a port has been found to present stands while its own row and the entries stand. -/
theorem Presents.congr {was : Option EntryId} {p : PortId} {s t : State} (h : Presents was p s)
    (hentries : t.entries = s.entries) (hport : t.port p = s.port p) : Presents was p t := by
  have hentry : ∀ e, t.entry e = s.entry e := fun e => congrArg (Vector.get · e) hentries
  have hold : ∀ e, OldestDeliverable t p e ↔ OldestDeliverable s p e := fun e => by
    simp only [OldestDeliverable, Deliverable, hport, hentry]
  unfold Presents
  simp only [hold, hport]
  exact h

theorem present_port_other {p q : PortId} (h : p ≠ q) (s : State) : (present q s).port p = s.port p := by
  obtain ⟨x, hx, _⟩ := present_eq q s
  rw [hx, modPort_port_other s h]

/-- Ports that present one after another leave a port alone that is none of them. -/
theorem presentFold_other {p : PortId} {l : List PortId} (h : p ∉ l) (s : State) :
    (l.foldl (fun u q => present q u) s).port p = s.port p := by
  induction l generalizing s with
  | nil => rfl
  | cons q rest ih =>
    rw [List.mem_cons, not_or] at h
    obtain ⟨hne, hrest⟩ := h
    exact (ih hrest _).trans (present_port_other hne s)

theorem presentFold_entries (l : List PortId) (s : State) : (l.foldl (fun u q => present q u) s).entries = s.entries := by
  induction l generalizing s with
  | nil => rfl
  | cons q rest ih => exact (ih _).trans (present_entries q s)

/-- Each of them presents as it would alone. -/
theorem presentFold_presents {p : PortId} {l : List PortId} (hl : l.Nodup) (h : p ∈ l) (s : State) :
    Presents (s.port p).presented p (l.foldl (fun u q => present q u) s) := by
  induction l generalizing s with
  | nil => cases h
  | cons q rest ih =>
    obtain ⟨hq, hrest⟩ := List.nodup_cons.1 hl
    by_cases hpq : p = q
    · subst hpq
      exact (present_presents p s).congr (presentFold_entries rest _) (presentFold_other hq _)
    · have hpresents := ih hrest ((List.mem_cons.1 h).resolve_left hpq) (present q s)
      rwa [present_port_other hpq] at hpresents

theorem presentAll_presents (p : PortId) (s : State) : Presents (s.port p).presented p (presentAll s) :=
  presentFold_presents (l := [0, 1, 2, 3]) (by decide) (by fin_cases p <;> decide) s

/-- Presentation writes what the ports present, and nothing else. -/
theorem presentAll_eq (s : State) : ∃ ports, presentAll s = { s with ports := ports } := by
  have hone : ∀ (q : PortId) (u : State), (∃ ports, u = { s with ports := ports }) →
      ∃ ports, present q u = { s with ports := ports } := by
    rintro q _ ⟨ports, rfl⟩
    obtain ⟨x, hx, _⟩ := present_eq q { s with ports := ports }
    exact ⟨_, hx⟩
  exact hone 3 _ (hone 2 _ (hone 1 _ (hone 0 s ⟨s.ports, rfl⟩)))

theorem presentAll_port (p : PortId) (s : State) : ∃ x, (presentAll s).port p = { s.port p with presented := x } := by
  have hone : ∀ (q : PortId) (u : State), (∃ x, u.port p = { s.port p with presented := x }) →
      ∃ x, (present q u).port p = { s.port p with presented := x } := by
    rintro q u ⟨y, hy⟩
    obtain ⟨x, hx, _⟩ := present_eq q u
    by_cases hpq : p = q
    · subst hpq
      exact ⟨x, by rw [hx, modPort_port_same, hy]⟩
    · exact ⟨y, (present_port_other hpq u).trans hy⟩
  exact hone 3 _ (hone 2 _ (hone 1 _ (hone 0 s ⟨_, rfl⟩)))

/-! ## The datapath state behind a reset (R133, R134) -/

theorem setQuiescing_busy {s : State} (h : ∃ e, (s.entry e).state ≠ .free) :
    setQuiescing s = { s with datapath := .quiescing } :=
  if_pos (by simpa using h)

theorem setQuiescing_quiet {s : State} (h : ∀ e, (s.entry e).state = .free) :
    setQuiescing s = { s with datapath := .normal }.raise { kind := .datapathQuiet } :=
  if_neg (by simpa using h)

/-- The end of the reset writes the datapath state and the event queue. -/
theorem setQuiescing_eq (s : State) :
    ∃ datapath events lost attn,
      setQuiescing s = { s with datapath := datapath, events := events, lost := lost, attn := attn } := by
  by_cases h : ∃ e, (s.entry e).state ≠ .free
  · exact ⟨_, _, _, _, setQuiescing_busy h⟩
  · obtain ⟨_, hraised⟩ := raise_raisedOnly { s with datapath := .normal } { kind := .datapathQuiet }
    exact ⟨_, _, _, _, (setQuiescing_quiet (by simpa using h)).trans hraised⟩

/-! ## The whole reset (R179) -/

/-- The part behind a datapath reset, but for the frame that brings it and the re-test behind it. -/
def datapathCleared (s : State) : State := setQuiescing (presentAll (resetTables s))

theorem cmdDatapathReset_confirmed (s : State) : cmdDatapathReset 0xA5 s = Answer.done (datapathCleared s) := rfl

theorem cmdDatapathReset_badArg {b : Byte} (h : b ≠ 0xA5) (s : State) :
    cmdDatapathReset b s = Answer.refuse .badArg s := if_neg fun k => h (beq_iff_eq.1 k)

section Cleared

variable (s : State)

/-- Of the state behind the tables' reset, only ports, datapath state and event queue are written again. -/
theorem datapathCleared_eq :
    ∃ ports datapath events lost attn,
      datapathCleared s =
        { resetTables s with ports := ports, datapath := datapath, events := events, lost := lost, attn := attn } := by
  obtain ⟨ports, hpresented⟩ := presentAll_eq (resetTables s)
  obtain ⟨datapath, events, lost, attn, hquiesced⟩ := setQuiescing_eq (presentAll (resetTables s))
  refine ⟨ports, datapath, events, lost, attn, ?_⟩
  rw [datapathCleared, hquiesced, hpresented]

theorem datapathCleared_entry (e : EntryId) : (datapathCleared s).entry e = (s.entry e).afterReset := by
  obtain ⟨_, _, _, _, _, h⟩ := datapathCleared_eq s
  rw [h]
  exact resetTables_entry s e

theorem datapathCleared_stream (n : StreamId) : (datapathCleared s).stream n = (s.stream n).afterReset := by
  obtain ⟨_, _, _, _, _, h⟩ := datapathCleared_eq s
  rw [h]
  exact resetTables_stream s n

theorem datapathCleared_page (p : PageId) :
    (datapathCleared s).page p = (s.page p).afterReset (loweredAtReset s .write p) (loweredAtReset s .read p) := by
  obtain ⟨_, _, _, _, _, h⟩ := datapathCleared_eq s
  rw [h]
  exact resetTables_page s p

/-- Scheduler, stray count and the settings of the event queue stay (R133, R148). -/
theorem datapathCleared_scheduler :
    (datapathCleared s).pointer = s.pointer ∧ (datapathCleared s).indications = s.indications
      ∧ (datapathCleared s).stray = s.stray ∧ SameSettings s (datapathCleared s) := by
  obtain ⟨_, _, _, _, _, h⟩ := datapathCleared_eq s
  rw [h]
  exact ⟨rfl, rfl, rfl, rfl, rfl⟩

/-- Every queue is empty, and every port presents afresh (R129, R130, R131). -/
theorem datapathCleared_port (p : PortId) :
    (datapathCleared s).port p = { s.port p with queue := [], presented := ((datapathCleared s).port p).presented }
      ∧ Presents none p (datapathCleared s) := by
  obtain ⟨_, _, _, _, hquiesced⟩ := setQuiescing_eq (presentAll (resetTables s))
  obtain ⟨x, hx⟩ := presentAll_port p (resetTables s)
  have hpresents := presentAll_presents p (resetTables s)
  rw [resetTables_port] at hx hpresents
  have hport : (datapathCleared s).port p = (presentAll (resetTables s)).port p := by
    rw [datapathCleared, hquiesced]
    rfl
  refine ⟨?_, hpresents.congr ?_ hport⟩
  · rw [hport, hx]
    rfl
  · rw [datapathCleared, hquiesced]

/-- The reset frees no entry (R130). -/
theorem resetTables_free (e : EntryId) :
    ((presentAll (resetTables s)).entry e).state = .free ↔ (s.entry e).state = .free := by
  have hentry : (presentAll (resetTables s)).entry e = (s.entry e).afterReset := by
    obtain ⟨_, h⟩ := presentAll_eq (resetTables s)
    rw [h]
    exact resetTables_entry s e
  rw [hentry, Entry.afterReset_free]

theorem presentAll_resetTables_sameEvents : SameEvents s (presentAll (resetTables s)) := by
  obtain ⟨_, h⟩ := presentAll_eq (resetTables s)
  rw [h]
  exact SameEvents.refl s

/-- While an entry is left the datapath is QUIESCING, and nothing is raised (R133). -/
theorem datapathCleared_busy (h : ∃ e, (s.entry e).state ≠ .free) :
    (datapathCleared s).datapath = .quiescing ∧ SameEvents s (datapathCleared s) := by
  obtain ⟨e, he⟩ := h
  rw [datapathCleared, setQuiescing_busy ⟨e, fun k => he ((resetTables_free s e).1 k)⟩]
  exact ⟨rfl, presentAll_resetTables_sameEvents s⟩

/-- With none left it is NORMAL, and DATAPATH_QUIET is raised (R134). -/
theorem datapathCleared_quiet (h : ∀ e, (s.entry e).state = .free) :
    (datapathCleared s).datapath = .normal ∧ Raised { kind := .datapathQuiet } s (datapathCleared s) := by
  obtain ⟨hevents, hlost, hattn, hwater, hmask⟩ := presentAll_resetTables_sameEvents s
  have hraised := raised_raise { presentAll (resetTables s) with datapath := .normal } { kind := .datapathQuiet }
  rw [datapathCleared, setQuiescing_quiet fun e => (resetTables_free s e).2 (h e)]
  exact ⟨raise_datapath _ _, hraised.congr hevents.symm hlost.symm hattn.symm hwater.symm hmask.symm rfl rfl rfl⟩

end Cleared

/-- What a datapath reset leaves, row by row: the response and the receiver, which its frame writes, are in `Framed`. -/
structure DatapathCleared (s t : State) : Prop where
  entry : ∀ e, t.entry e = (s.entry e).afterReset
  stream : ∀ n, t.stream n = (s.stream n).afterReset
  page : ∀ p, t.page p = (s.page p).afterReset (loweredAtReset s .write p) (loweredAtReset s .read p)
  port : ∀ p, t.port p = { s.port p with queue := [], presented := (t.port p).presented } ∧ Presents none p t
  scheduler : t.pointer = s.pointer ∧ t.indications = s.indications ∧ t.stray = s.stray ∧ SameSettings s t
  busy : (∃ e, (s.entry e).state ≠ .free) → t.datapath = .quiescing ∧ SameEvents s t
  quiet : (∀ e, (s.entry e).state = .free) → t.datapath = .normal ∧ Raised { kind := .datapathQuiet } s t

theorem datapathCleared_rows (s : State) : DatapathCleared s (datapathCleared s) :=
  ⟨datapathCleared_entry s, datapathCleared_stream s, datapathCleared_page s, datapathCleared_port s,
    datapathCleared_scheduler s, datapathCleared_busy s, datapathCleared_quiet s⟩

/-- The frame around the reset writes none of this. -/
theorem DatapathCleared.framed {bytes response : List Byte} {s t : State} (h : DatapathCleared (shiftFrame bytes s) t) :
    DatapathCleared s { t with response := response } := by
  refine ⟨h.entry, h.stream, h.page, fun p => ?_, h.scheduler, h.busy, fun hnone => ?_⟩
  · obtain ⟨hport, hpresents⟩ := h.port p
    exact ⟨hport, hpresents.congr rfl rfl⟩
  · obtain ⟨hnormal, hraised⟩ := h.quiet hnone
    exact ⟨hnormal, hraised.congr rfl rfl rfl rfl rfl rfl rfl rfl⟩

theorem exec_datapathReset (f : FrameTail) {s : State} (hr : PortReady s) :
    ∃ t u, exec (.datapathReset 0xA5 f) s = .next u ∧ Retested t u ∧ Framed (.datapathReset 0xA5 f) [0x00] s t
      ∧ DatapathCleared s t := by
  obtain ⟨u, hexec, hretested, hframed⟩ := steering_taken (i := .datapathReset 0xA5 f) hr rfl rfl
    (cmdDatapathReset_confirmed _) (datapathReset_commandFrame (shiftFrame _ s))
  exact ⟨_, u, hexec, hretested, hframed, (datapathCleared_rows (shiftFrame _ s)).framed⟩

/-- Settles O24: the reset rewrites every row of the tables, and what a row becomes depends on the others only by the counts
that the reset lowers. -/
theorem datapathResetClearsTraffic : Obligations.DatapathResetClearsTraffic := by
  refine ⟨fun b f s hr hb => ?_, fun f s hr => ?_⟩
  · exact steering_refused (code := .badArg) hr rfl rfl (by decide) (cmdDatapathReset_badArg hb _)
  obtain ⟨t, u, hexec, hretested, hframed, hcleared⟩ := exec_datapathReset f hr
  refine ⟨t, u, hexec, hretested, hframed, fun e hu => ?_, fun e hu => ?_, hcleared.port, fun n => ?_, fun p => ?_,
    fun hleft => ?_, hcleared.quiet, hcleared.scheduler⟩
  · rw [hcleared.entry, Entry.afterReset_of_undelivered hu]
    exact ⟨rfl, rfl, Piece.map_afterReset_status _, rfl, rfl, rfl⟩
  · rw [hcleared.entry, Entry.afterReset_of_delivered (Bool.eq_false_iff.1 hu)]
  · rw [hcleared.stream, Stream.afterReset_eq]
  · rw [hcleared.page]
    by_cases hkept : (s.page p).stage = .unassigned ∨ (s.page p).stage = .free
    · rw [Page.afterReset_kept hkept]
      exact ⟨rfl, rfl, rfl, rfl, rfl, rfl, fun _ => rfl, fun h1 h2 => absurd hkept (not_or.2 ⟨h1, h2⟩)⟩
    · rw [Page.afterReset_released hkept]
      exact ⟨rfl, rfl, rfl, rfl, rfl, rfl, fun h => absurd h hkept, fun _ _ => ⟨rfl, rfl, rfl, rfl⟩⟩
  · obtain ⟨hbusy, hevents, hlost, hattn, _⟩ := hcleared.busy hleft
    exact ⟨hbusy, hevents, hlost, hattn⟩

end Sys2Proof.Machine

/-! PROOFS. RESETN low: what still happens (O5), what a pin reset leaves (O7) and how the part leaves it (O8). -/

namespace Sys2Proof.Machine

/-! ## While RESETN is low (R182) -/

/-- The form that the events of the links, the strobes and the rise of RESETN share: with RESETN low, u is not reached. -/
theorem next_of_resetn_low {s : State} (h : s.resetn = false) (u v : State) :
    (Host.Outcome.next (if s.resetn then u else v) : Host.Outcome State Fault Refusal) = .next v := by
  rw [h, if_neg Bool.false_ne_true]

theorem exec_acceptance_resetn_low {s : State} (h : s.resetn = false) (p : PortId) (r : Request) (urg : UrgLevels) :
    exec (.acceptance p r urg) s = .next (setWaiting p (some (headRequest s p r)) s) := next_of_resetn_low h _ _

theorem setWaiting_waiting_same (p : PortId) (w : Option Request) (s : State) :
    (setWaiting p w s).links.waiting.get p = w := setRow_get_same ..

/-- A frame ends at one of the two ends of a command, or as a discarded frame, and each of them asks whether the port takes
it (R165). -/
theorem exec_frame_notReady {i : Instr} {bytes : List Byte} {bits : List Bool} {s : State}
    (hf : frameOf i = some (bytes, bits)) (hr : ¬ PortReady s) : exec i s = .next s := by
  cases i <;> cases hf
  case setStream | clearStream | setConsumer | assignPage | unassignPage | startStream | stopStream | datapathReset =>
    exact congrArg Host.Outcome.next (steeringFrameEnd_notReady hr)
  case nop | freeze | setArbiter | setEvents | popEvents | readStream | readPage | readCounters | unknownCommand
      | shortFrame =>
    exact congrArg Host.Outcome.next (frameEnd_notReady hr)
  case discardedFrame => exact congrArg Host.Outcome.next (if_neg fun hready => hr ((portReady_iff s).2 hready))

/-- Settles O5: with RESETN low an acceptance writes the waiting request of its link alone, and every other event of the
links and strobes answers the state it finds. -/
theorem nothingHappensUnderPinReset : Obligations.NothingHappensUnderPinReset := by
  refine ⟨fun s hlow => ?_, fun i bytes bits s hf hr => exec_frame_notReady hf hr⟩
  have hignored := fun u => next_of_resetn_low hlow u s
  refine ⟨fun _ => hignored _, fun _ _ => hignored _, fun _ => hignored _, fun _ => hignored _, fun _ => hignored _,
    fun p r urg => ?_⟩
  have hwaits : (setWaiting p (some (headRequest s p r)) s).links.waiting.get p ≠ none := by
    rw [setWaiting_waiting_same]
    exact Option.some_ne_none _
  exact ⟨_, exec_acceptance_resetn_low hlow p r urg, ⟨rfl, rfl⟩, ⟨rfl, rfl, rfl, rfl, rfl, rfl⟩,
    ⟨rfl, rfl, rfl, rfl, rfl⟩, ⟨rfl, rfl, rfl, rfl, rfl, rfl⟩, rfl, hwaits⟩

/-! ## What a pin reset leaves (R2, R4, R20, R121, R149) -/

/-- The mask has a bit set for each of the nine kinds that can be masked, and EVENTS_LOST cannot be (R158). -/
theorem reset_kindEnabled (k : EventKind) : State.reset.kindEnabled k = true := by
  cases k <;> decide

section HoldReset

variable (s : State)

theorem holdReset_stream (n : StreamId) : (holdReset s).stream n = Stream.blank := reset_stream n

theorem holdReset_slot (n : StreamId) (x : SlotId) : (holdReset s).slot n x = Slot.blank := reset_slot n x

theorem holdReset_page (p : PageId) : (holdReset s).page p = Page.blank := reset_page p

theorem holdReset_entry (e : EntryId) : (holdReset s).entry e = Entry.blank := reset_entry e

theorem holdReset_port (p : PortId) : (holdReset s).port p = Port.blank := reset_port p

theorem holdReset_kindEnabled (k : EventKind) : (holdReset s).kindEnabled k = true := reset_kindEnabled k

end HoldReset

/-- Settles O7: every row of a table is the blank row of its kind, and the registers and lines are those of `State.reset` but
for RESETN and MDO. -/
theorem pinResetValues : Obligations.PinResetValues := by
  refine fun s => ⟨holdReset s, rfl, fun n => ?_, holdReset_slot s, holdReset_page s, fun e => ?_, holdReset_port s,
    rfl, rfl, rfl, rfl, rfl, rfl, rfl, holdReset_kindEnabled s, rfl, rfl, rfl, rfl, rfl, rfl⟩
  · rw [holdReset_stream]
    simp [Stream.blank]
  · rw [holdReset_entry]
    rfl

/-! ## The end of a pin reset (R102, R165, R182) -/

/-- The part as it begins to work, before its ports test what waits on their links. -/
def resetnRaised (low : Bool) (s : State) : State :=
  { s with resetn := true, awaitRise := low, mdo := if low then .driven false else .notDriven }

theorem exec_resetnRise {s : State} (h : s.resetn = false) (low : Bool) :
    exec (.resetnRise low) s = .next (testWaiting (resetnRaised low s)) := next_of_resetn_low h _ _

theorem exec_chipSelectRise {s : State} (hr : s.resetn = true) (ha : s.awaitRise = true) :
    exec .chipSelectRiseAfterPinReset s = .next { s with awaitRise := false, mdo := .notDriven } :=
  congrArg Host.Outcome.next (if_pos (Bool.and_eq_true_iff.2 ⟨hr, ha⟩))

/-- Settles O8: the two rises write RESETN, the wait for chip select and MDO alone, and a re-test follows the rise of
RESETN. -/
theorem pinResetIsLeft : Obligations.PinResetIsLeft := by
  refine ⟨fun low s hlow => ⟨resetnRaised low s, _, exec_resetnRise hlow low, testWaiting_retested _, ?_⟩,
    fun s hr ha => ⟨_, exec_chipSelectRise hr ha, ?_⟩⟩
  · exact ⟨rfl, rfl, rfl, rfl, rfl, ⟨rfl, rfl⟩, ⟨rfl, rfl, rfl, rfl, rfl, rfl⟩, ⟨rfl, rfl, rfl, rfl, rfl⟩, rfl, rfl⟩
  · exact ⟨⟨hr, rfl⟩, rfl, rfl, rfl, ⟨rfl, rfl⟩, ⟨rfl, rfl, rfl, rfl, rfl, rfl⟩, ⟨rfl, rfl, rfl, rfl, rfl⟩, rfl, rfl⟩

end Sys2Proof.Machine

/-! PROOFS. One step and the queue of events: the front event is carried out (O1), and carrying one out always answers a next
state and never writes the queue (O2). -/

namespace Sys2Proof.Machine

/-! ## One step (log 1) -/

theorem step_of_pending_nil {s : State} (h : s.pending = []) : step s = .next s := by
  unfold step
  rw [h]

theorem step_of_pending_cons {s : State} {c : Instr} {rest : List Instr} (h : s.pending = c :: rest) :
    step s = exec c { s with pending := rest } := by
  unfold step
  rw [h]

/-- Settles O1, by whether an event waits. -/
theorem stepTakesTheFrontEvent : Obligations.StepTakesTheFrontEvent :=
  ⟨fun _ _ _ h => step_of_pending_cons h, fun _ h => step_of_pending_nil h⟩

/-! ## Every event leaves the queue of events alone -/

/-- Event i answers a next state from s, and the queue of events is as it was. -/
def Completes (i : Instr) (s : State) : Prop := ∃ t, exec i s = .next t ∧ t.pending = s.pending

theorem completes_of_eq {i : Instr} {s t : State} (he : exec i s = .next t) (hp : t.pending = s.pending) :
    Completes i s := ⟨t, he, hp⟩

/-- An event of the links or strobes has its effect with RESETN high and none with RESETN low (R182). -/
theorem completes_of_traffic {i : Instr} {s u : State} (he : exec i s = .next (if s.resetn then u else s))
    (hu : TrafficFrame s u) : Completes i s := by
  refine completes_of_eq he ?_
  split
  · exact hu.pending
  · rfl

/-- A frame of at least one whole byte that the port takes: its command writes no queue of events, and neither does the
re-test behind it. -/
theorem FrameAnswered.completes {i : Instr} {bytes : List Byte} {s : State} (h : FrameAnswered i bytes s) :
    Completes i s := by
  obtain ⟨command, hproper, hexec⟩ := h
  have hanswered : (answerFrame bytes command s).pending = s.pending := hproper.commandFrame.pending
  rcases hexec with hexec | ⟨_, hexec⟩
  · exact completes_of_eq hexec hanswered
  · exact completes_of_eq hexec ((testWaiting_frame _).pending.trans hanswered)

/-- Every command's frame holds at least its code. -/
theorem eq_discardedFrame_of_frameOf {i : Instr} {bits : List Bool} (hf : frameOf i = some ([], bits)) :
    i = .discardedFrame bits := by
  cases i <;> cases hf
  rfl

theorem exec_frame_completes {i : Instr} {bytes : List Byte} {bits : List Bool} (hf : frameOf i = some (bytes, bits))
    (s : State) : Completes i s := by
  by_cases hr : PortReady s
  · cases bytes with
    | nil =>
      cases eq_discardedFrame_of_frameOf hf
      exact completes_of_eq (exec_discardedFrame bits hr) rfl
    | cons b rest => exact (exec_frameAnswered hr hf (List.cons_ne_nil b rest)).completes
  · exact completes_of_eq (exec_frame_notReady hf hr) rfl

theorem exec_acceptance_completes (p : PortId) (r : Request) (urg : UrgLevels) (s : State) :
    Completes (.acceptance p r urg) s := by
  refine completes_of_eq rfl ?_
  split
  · exact (((seeUrg_frame urg s).trans (acceptHead_frame p _ _)).trans (testWaiting_frame _)).pending
  · exact (setWaiting_frame p _ s).pending

theorem exec_resetnRise_completes (low : Bool) (s : State) : Completes (.resetnRise low) s := by
  refine completes_of_eq rfl ?_
  split
  · rfl
  · exact (testWaiting_frame (resetnRaised low s)).pending

theorem exec_chipSelectRise_completes (s : State) : Completes .chipSelectRiseAfterPinReset s := by
  refine completes_of_eq rfl ?_
  split <;> rfl

theorem countIndication_frame (s : State) : TrafficFrame s (countIndication s) := by constructor <;> rfl

/-- The events that are no frame: strobes, links, and the two ends of a pin reset. -/
theorem exec_nonFrame_completes {i : Instr} (hf : frameOf i = none) (s : State) : Completes i s := by
  cases i <;> cases hf
  case boundaryEvent n => exact completes_of_traffic rfl (boundary_frame n s)
  case takeEvent n x => exact completes_of_traffic rfl (take_frame n x s)
  case acceptance p r urg => exact exec_acceptance_completes p r urg s
  case indication urg =>
    have hcounted := (seeUrg_frame urg s).trans (countIndication_frame _)
    exact completes_of_traffic rfl ((hcounted.trans (runGrants_frame _)).trans (testWaiting_frame _))
  case downstreamCompletion c => exact completes_of_traffic rfl (complete_frame c s)
  case delivery p => exact completes_of_traffic rfl (deliver_frame p s)
  case pinReset => exact completes_of_eq (t := holdReset s) rfl rfl
  case resetnRise low => exact exec_resetnRise_completes low s
  case chipSelectRiseAfterPinReset => exact exec_chipSelectRise_completes s

/-- Settles O2, for a management frame and for every other event. -/
theorem everyEventCompletes : Obligations.EveryEventCompletes := by
  intro i s
  cases hf : frameOf i with
  | none => exact exec_nonFrame_completes hf s
  | some frame => exact exec_frame_completes hf s

end Sys2Proof.Machine
